-- ==== Sys2Proof/Word.lean ====
section
/-! DEFINITION. The word types of ASA-CORE: the Q8.8 word (rule R80), the bin byte (rule R81) and the 32-bit port word
(rules R84 to R86, R98). -/

namespace Sys2Proof

/-- A Q8.8 word: a 16-bit pattern (rules R15, R80). -/
abbrev Word := BitVec 16

/-- A bin or framebuffer byte (rules R81, R46). -/
abbrev Byte := BitVec 8

/-- A 32-bit command, event or response word (rules R84 to R86, R98). -/
abbrev PortWord := BitVec 32

end Sys2Proof
end

