-- ==== Sys2Proof/Syntax.lean ====
section
/-! DEFINITION. The operations of ASA-CORE: one constructor for each row of spec/opcode_table.json. The first 21 are
command and event words (rules R88 to R94); the other 15 are micro-operations, which no word encodes and a phase
register selects (rules R95 to R97, R101). -/

namespace Sys2Proof

/-- The agents an event word can name: FFT sequencer 1, STR sequencer 2, SNK sequencer 3, LNK 4 (rule R87). -/
inductive Agent where
  | fft
  | str
  | snk
  | lnk
  deriving DecidableEq, Repr

/-- An operation with its operands. An operand field has the width of its legal range (rule R99), but for a framebuffer
address, whose range depends on the parameters (`Instr.wf`). -/
inductive Instr where
  /-- FFT.STAT (R120). -/
  | fftStat
  /-- FFT.LDS idx, data (R121). -/
  | fftLds (idx : BitVec 7) (data : Word)
  /-- FFT.START (R122). -/
  | fftStart
  /-- FFT.RDR idx (R123). -/
  | fftRdr (idx : BitVec 7)
  /-- FFT.RDI idx (R124). -/
  | fftRdi (idx : BitVec 7)
  /-- FFT.RDS idx (R125). -/
  | fftRds (idx : BitVec 7)
  /-- STR.STAT (R141). -/
  | strStat
  /-- STR.WRB idx, byte (R142). -/
  | strWrb (idx : BitVec 5) (byte : Byte)
  /-- STR.SEND (R143). -/
  | strSend
  /-- STR.SETFR bit (R144). -/
  | strSetfr (bit : Bool)
  /-- STR.RDB idx (R145). -/
  | strRdb (idx : BitVec 5)
  /-- SNK.STAT (R195). -/
  | snkStat
  /-- SNK.RDB idx (R196). -/
  | snkRdb (idx : BitVec 5)
  /-- SNK.RSTCNT (R197). -/
  | snkRstcnt
  /-- SNK.RDLINE (R198). -/
  | snkRdline
  /-- SNK.WRFB addr, byte (R199). -/
  | snkWrfb (addr : BitVec 16) (byte : Byte)
  /-- SNK.RDFB addr (R200). -/
  | snkRdfb (addr : BitVec 16)
  /-- EVT.LINE (R91, R181). -/
  | evtLine
  /-- EVT.STEP agent (R92). -/
  | evtStep (agent : Agent)
  /-- EVT.RUN agent (R93). -/
  | evtRun (agent : Agent)
  /-- EVT.SETTLE (R94). -/
  | evtSettle
  /-- FFT.SWAP (R126). -/
  | fftSwap
  /-- FFT.BFLY (R127). -/
  | fftBfly
  /-- STR.WAITRR (R147). -/
  | strWaitrr
  /-- STR.PUSH (R148). -/
  | strPush
  /-- STR.FIN (R149). -/
  | strFin
  /-- RAS.SYNCON (R182). -/
  | rasSyncon
  /-- RAS.COUNT (R183). -/
  | rasCount
  /-- RAS.SYNCOFF (R184). -/
  | rasSyncoff
  /-- RAS.EMIT (R185). -/
  | rasEmit
  /-- RCV.POLL (R154). -/
  | rcvPoll
  /-- RCV.RD0 (R155). -/
  | rcvRd0
  /-- RCV.RDYOFF (R156). -/
  | rcvRdyoff
  /-- RCV.RDN (R157). -/
  | rcvRdn
  /-- LNK.LOAD (R150). -/
  | lnkLoad
  /-- LNK.XFER (R151). -/
  | lnkXfer
  deriving DecidableEq, Repr

end Sys2Proof
end

