-- ==== Sys2Proof/Decode.lean ====
section
/-! DEFINITION. Decoding and encoding. A port word is decoded by rule R99, steps (1) and (2). A micro-operation is not
in a word: its code is the value of the phase register that selects it (rules R95 to R97, R101). Decoding is total and
rejects by name. The one range that needs the parameters, `addr < FB_SIZE`, is `Instr.wf` and is checked by the
operations that take an address. -/

namespace Sys2Proof

/-- The registers whose value selects a micro-operation (rules R95 to R97). `link` is the two-bit value
`tsr_full ++ thr_full` of rule R101. -/
inductive PhaseReg where
  | fftPh
  | strPh
  | snkPh
  | link
  deriving DecidableEq, Repr

/-- What is decoded: a 32-bit port word, or the value of a selecting register, in whole bytes. -/
inductive Code where
  | word (w : PortWord)
  | phase (reg : PhaseReg) (code : Byte)
  deriving DecidableEq, Repr

/-- Why a code names no operation. Every reason is NAK_ARG for a port word (rules R99, R100) and "no step" for a
selecting register (rules R95 to R97). All are safe: nothing is done. -/
inductive Reject where
  /-- The unit number is reserved (R87, R100). -/
  | reservedUnit
  /-- The unit has no such operation (R88 to R94, R100). -/
  | reservedOp
  /-- A field the operation does not use is not zero (R84, R99). -/
  | fieldNotZero
  /-- `idx` is out of range (R99). -/
  | indexRange
  /-- `data` is out of range for STR.WRB or STR.SETFR (R99). -/
  | dataRange
  /-- The agent number is not in 1..4 (R99). -/
  | agentRange
  /-- The register's value selects no micro-operation (R95 to R97). -/
  | noMicroOp
  deriving DecidableEq, Repr

/-! ## Fields (rules R84 to R86) -/

/-- `unit = bits[31:28]`. -/
def unitField (w : PortWord) : BitVec 4 := w.extractLsb' 28 4

/-- `op = bits[27:24]`. -/
def opField (w : PortWord) : BitVec 4 := w.extractLsb' 24 4

/-- `idx` of format A, `agent` of format E: `bits[23:16]`. -/
def idxField (w : PortWord) : BitVec 8 := w.extractLsb' 16 8

/-- `data` of format A: `bits[15:0]`. -/
def dataField (w : PortWord) : Word := w.extractLsb' 0 16

/-- `addr` of format B: `bits[23:8]`. -/
def addrField (w : PortWord) : BitVec 16 := w.extractLsb' 8 16

/-- `byte` of format B: `bits[7:0]`. -/
def byteField (w : PortWord) : Byte := w.extractLsb' 0 8

/-! ## Decoding -/

/-- Go on if the check holds, else reject for the reason. -/
def need (ok : Bool) (why : Reject) (go : Except Reject Instr) : Except Reject Instr :=
  if ok then go else .error why

/-- The agent an agent number names (rule R87). -/
def agentOfNumber (n : BitVec 8) : Option Agent :=
  match n.toNat with
  | 1 => some .fft
  | 2 => some .str
  | 3 => some .snk
  | 4 => some .lnk
  | _ => none

/-- The number of an agent (rule R87). -/
def agentNumber (a : Agent) : BitVec 8 :=
  match a with
  | .fft => 1
  | .str => 2
  | .snk => 3
  | .lnk => 4

/-- Unit 1 (rule R88). -/
def decodeFft (op : Nat) (idx : BitVec 8) (data : Word) : Except Reject Instr :=
  match op with
  | 0 => need (idx == 0 && data == 0) .fieldNotZero (.ok .fftStat)
  | 1 => need (decide (idx.toNat < 128)) .indexRange (.ok (.fftLds (idx.setWidth 7) data))
  | 2 => need (idx == 0 && data == 0) .fieldNotZero (.ok .fftStart)
  | 3 => need (decide (idx.toNat < 128)) .indexRange (need (data == 0) .fieldNotZero (.ok (.fftRdr (idx.setWidth 7))))
  | 4 => need (decide (idx.toNat < 128)) .indexRange (need (data == 0) .fieldNotZero (.ok (.fftRdi (idx.setWidth 7))))
  | 5 => need (decide (idx.toNat < 128)) .indexRange (need (data == 0) .fieldNotZero (.ok (.fftRds (idx.setWidth 7))))
  | _ => .error .reservedOp

/-- Unit 2 (rule R89). -/
def decodeStr (op : Nat) (idx : BitVec 8) (data : Word) : Except Reject Instr :=
  match op with
  | 0 => need (idx == 0 && data == 0) .fieldNotZero (.ok .strStat)
  | 1 => need (decide (idx.toNat < 32)) .indexRange
      (need (decide (data.toNat ≤ 0xFF)) .dataRange (.ok (.strWrb (idx.setWidth 5) (data.setWidth 8))))
  | 2 => need (idx == 0 && data == 0) .fieldNotZero (.ok .strSend)
  | 3 => need (idx == 0) .fieldNotZero (need (decide (data.toNat ≤ 1)) .dataRange (.ok (.strSetfr (data.getLsbD 0))))
  | 4 => need (decide (idx.toNat < 32)) .indexRange (need (data == 0) .fieldNotZero (.ok (.strRdb (idx.setWidth 5))))
  | _ => .error .reservedOp

/-- Unit 3 (rule R90); operations 4 and 5 have format B. -/
def decodeSnk (op : Nat) (idx : BitVec 8) (data : Word) (addr : BitVec 16) (byte : Byte) : Except Reject Instr :=
  match op with
  | 0 => need (idx == 0 && data == 0) .fieldNotZero (.ok .snkStat)
  | 1 => need (decide (idx.toNat < 32)) .indexRange (need (data == 0) .fieldNotZero (.ok (.snkRdb (idx.setWidth 5))))
  | 2 => need (idx == 0 && data == 0) .fieldNotZero (.ok .snkRstcnt)
  | 3 => need (idx == 0 && data == 0) .fieldNotZero (.ok .snkRdline)
  | 4 => .ok (.snkWrfb addr byte)
  | 5 => need (byte == 0) .fieldNotZero (.ok (.snkRdfb addr))
  | _ => .error .reservedOp

/-- An event word that names an agent in 1..4 (rules R92, R93, R99). -/
def decodeAgent (idx : BitVec 8) (data : Word) (make : Agent → Instr) : Except Reject Instr :=
  match agentOfNumber idx with
  | some a => need (data == 0) .fieldNotZero (.ok (make a))
  | none => .error .agentRange

/-- Unit 0xE (rules R91 to R94). -/
def decodeEvt (op : Nat) (idx : BitVec 8) (data : Word) : Except Reject Instr :=
  match op with
  | 1 => need (idx == 0 && data == 0) .fieldNotZero (.ok .evtLine)
  | 2 => decodeAgent idx data .evtStep
  | 3 => decodeAgent idx data .evtRun
  | 4 => need (idx == 0 && data == 0) .fieldNotZero (.ok .evtSettle)
  | _ => .error .reservedOp

/-- Steps (1) and (2) of rule R99 on a port word. -/
def decodeWord (w : PortWord) : Except Reject Instr :=
  match (unitField w).toNat with
  | 0x1 => decodeFft (opField w).toNat (idxField w) (dataField w)
  | 0x2 => decodeStr (opField w).toNat (idxField w) (dataField w)
  | 0x3 => decodeSnk (opField w).toNat (idxField w) (dataField w) (addrField w) (byteField w)
  | 0xE => decodeEvt (opField w).toNat (idxField w) (dataField w)
  | _ => .error .reservedUnit

/-- The micro-operation a register's value selects (rules R95 to R97). With `link`, bit 1 is `tsr_full` and bit 0
`thr_full`: a full shift register selects LNK.XFER whatever the holding register. -/
def decodePhase (reg : PhaseReg) (code : Nat) : Except Reject Instr :=
  match reg, code with
  | .fftPh, 1 => .ok .fftSwap
  | .fftPh, 2 => .ok .fftBfly
  | .strPh, 1 => .ok .strWaitrr
  | .strPh, 2 => .ok .strPush
  | .strPh, 3 => .ok .strFin
  | .snkPh, 0 => .ok .rasSyncon
  | .snkPh, 1 => .ok .rasCount
  | .snkPh, 2 => .ok .rasSyncoff
  | .snkPh, 3 => .ok .rasEmit
  | .snkPh, 4 => .ok .rcvPoll
  | .snkPh, 5 => .ok .rcvRd0
  | .snkPh, 6 => .ok .rcvRdyoff
  | .snkPh, 7 => .ok .rcvRdn
  | .link, 1 => .ok .lnkLoad
  | .link, 2 => .ok .lnkXfer
  | .link, 3 => .ok .lnkXfer
  | _, _ => .error .noMicroOp

/-- Decode a port word or the value of a selecting register. -/
def decode (c : Code) : Except Reject Instr :=
  match c with
  | .word w => decodeWord w
  | .phase reg code => decodePhase reg code.toNat

/-! ## Encoding -/

/-- A word of format A or E (rules R84, R86). -/
def formatA (unit op : BitVec 4) (idx : BitVec 8) (data : Word) : PortWord := unit ++ op ++ idx ++ data

/-- A word of format B (rule R85). -/
def formatB (unit op : BitVec 4) (addr : BitVec 16) (byte : Byte) : PortWord := unit ++ op ++ addr ++ byte

/-- The word of a command or event, the selecting code of a micro-operation (rules R88 to R97). LNK.XFER has two
selecting codes; the one with an empty holding register is given. -/
def encode (i : Instr) : Code :=
  match i with
  | .fftStat => .word (formatA 0x1 0 0 0)
  | .fftLds idx data => .word (formatA 0x1 1 (idx.setWidth 8) data)
  | .fftStart => .word (formatA 0x1 2 0 0)
  | .fftRdr idx => .word (formatA 0x1 3 (idx.setWidth 8) 0)
  | .fftRdi idx => .word (formatA 0x1 4 (idx.setWidth 8) 0)
  | .fftRds idx => .word (formatA 0x1 5 (idx.setWidth 8) 0)
  | .strStat => .word (formatA 0x2 0 0 0)
  | .strWrb idx byte => .word (formatA 0x2 1 (idx.setWidth 8) (byte.setWidth 16))
  | .strSend => .word (formatA 0x2 2 0 0)
  | .strSetfr bit => .word (formatA 0x2 3 0 ((BitVec.ofBool bit).setWidth 16))
  | .strRdb idx => .word (formatA 0x2 4 (idx.setWidth 8) 0)
  | .snkStat => .word (formatA 0x3 0 0 0)
  | .snkRdb idx => .word (formatA 0x3 1 (idx.setWidth 8) 0)
  | .snkRstcnt => .word (formatA 0x3 2 0 0)
  | .snkRdline => .word (formatA 0x3 3 0 0)
  | .snkWrfb addr byte => .word (formatB 0x3 4 addr byte)
  | .snkRdfb addr => .word (formatB 0x3 5 addr 0)
  | .evtLine => .word (formatA 0xE 1 0 0)
  | .evtStep a => .word (formatA 0xE 2 (agentNumber a) 0)
  | .evtRun a => .word (formatA 0xE 3 (agentNumber a) 0)
  | .evtSettle => .word (formatA 0xE 4 0 0)
  | .fftSwap => .phase .fftPh 1
  | .fftBfly => .phase .fftPh 2
  | .strWaitrr => .phase .strPh 1
  | .strPush => .phase .strPh 2
  | .strFin => .phase .strPh 3
  | .rasSyncon => .phase .snkPh 0
  | .rasCount => .phase .snkPh 1
  | .rasSyncoff => .phase .snkPh 2
  | .rasEmit => .phase .snkPh 3
  | .rcvPoll => .phase .snkPh 4
  | .rcvRd0 => .phase .snkPh 5
  | .rcvRdyoff => .phase .snkPh 6
  | .rcvRdn => .phase .snkPh 7
  | .lnkLoad => .phase .link 1
  | .lnkXfer => .phase .link 2

/-! ## The opcode table's numbering -/

/-- The code that a row's bits stand for. A row of 32 bits is a port word. A row of one byte is the value of a selecting
register; the row's bits do not say which register, and the byte is read as a value of `SNK_PH`, the widest of them.
DESIGN CHOICE, safe: see notes/assumptions/12.md. -/
def tableCode (nbits w : Nat) : Code :=
  if nbits ≤ 8 then .phase .snkPh (BitVec.ofNat 8 w) else .word (BitVec.ofNat 32 w)

/-- The instruction the decoder reads from a row's bits, none where it rejects. -/
def decodeTableWord (nbits w : Nat) : Option Instr :=
  match decode (tableCode nbits w) with
  | .ok i => some i
  | .error _ => none

end Sys2Proof
end

