-- ==== Sys2Proof/Config.lean ====
section
/-! DEFINITION. The parameters of the model (rules R8 to R14): the constants the source fixes, the parameters that are
arguments of the model with their defaults, and the timing parameters that no rule reads. -/

namespace Sys2Proof

/-- `N`, the transform size (rule R8). -/
abbrev transformSize : Nat := 128

/-- `NBINS`, the bins of a frame (rule R8). -/
abbrev numBins : Nat := 32

/-- `CHUNK`, the bytes of a chunk (rule R8). -/
abbrev chunkBytes : Nat := 4

/-- `NCHUNK`, the chunks of a frame (rule R8). -/
abbrev numChunks : Nat := 8

/-- The arguments of the model (rules R10 to R13, R24). A machine carries one value of this type in its state and no step
changes it. DESIGN CHOICE, safe: see notes/assumptions/6.md. -/
structure Config where
  /-- `LINE_FIRST` (R10). -/
  lineFirst : Nat
  /-- `WRAP_AT` (R10). -/
  wrapAt : Nat
  /-- `VS_START` (R10). -/
  vsStart : Nat
  /-- `VS_END` (R10). -/
  vsEnd : Nat
  /-- `VIS_TOP` (R10). -/
  visTop : Nat
  /-- `VIS_BOT` (R10). -/
  visBot : Nat
  /-- `BPR`, bytes of a framebuffer row (R11). -/
  bpr : Nat
  /-- `PIX_MSB_FIRST` (R11); no rule reads it. -/
  pixMsbFirst : Bool
  /-- `RX_DEPTH`, capacity of the receive queue (R12). -/
  rxDepth : Nat
  /-- `RX_IN_VSYNC`, whether the Receiver runs on vertical-sync lines (R12, 90_conflicts.md C1). -/
  rxInVsync : Bool
  /-- `SIN[0..127]`, the sine ROM (R13, R24). -/
  sin : List Word
  /-- `mulfix` (R13), as plain data: the points ((a, b), mulfix(a, b)) at which the multiply differs from its default, rule
  R111; the first point of a pair counts. Every function of two words is such a list (`mulfix_can_be_any_function`).
  DESIGN CHOICE, safe: see notes/assumptions/7.md. -/
  mulPoints : List ((Word × Word) × Word)
  deriving DecidableEq, Repr

/-- `LINES`, the lines of a video frame (R10). -/
def Config.lines (c : Config) : Nat := c.wrapAt - c.lineFirst

/-- `VIS_LINES`, the visible lines of a video frame (R10). -/
def Config.visLines (c : Config) : Nat := c.visBot - c.visTop

/-- `FB_SIZE`, the bytes of the framebuffer (R11). -/
def Config.fbSize (c : Config) : Nat := c.visLines * c.bpr

/-- The default sine ROM, row by row as rule R24 prints it. -/
def sinTable : List Word :=
  [0x0000, 0x0006, 0x000C, 0x0012, 0x0018, 0x001F, 0x0025, 0x002B] ++
  [0x0030, 0x0036, 0x003C, 0x0041, 0x0047, 0x004C, 0x0051, 0x0055] ++
  [0x005A, 0x005E, 0x0062, 0x0066, 0x006A, 0x006D, 0x0070, 0x0073] ++
  [0x0076, 0x0078, 0x007A, 0x007C, 0x007D, 0x007E, 0x007F, 0x007F] ++
  [0x0080, 0x007F, 0x007F, 0x007E, 0x007D, 0x007C, 0x007A, 0x0078] ++
  [0x0076, 0x0073, 0x0070, 0x006D, 0x006A, 0x0066, 0x0062, 0x005E] ++
  [0x005A, 0x0055, 0x0051, 0x004C, 0x0047, 0x0041, 0x003C, 0x0036] ++
  [0x0030, 0x002B, 0x0025, 0x001F, 0x0018, 0x0012, 0x000C, 0x0006] ++
  [0x0000, 0xFFFA, 0xFFF4, 0xFFEE, 0xFFE8, 0xFFE1, 0xFFDB, 0xFFD5] ++
  [0xFFD0, 0xFFCA, 0xFFC4, 0xFFBF, 0xFFB9, 0xFFB4, 0xFFAF, 0xFFAB] ++
  [0xFFA6, 0xFFA2, 0xFF9E, 0xFF9A, 0xFF96, 0xFF93, 0xFF90, 0xFF8D] ++
  [0xFF8A, 0xFF88, 0xFF86, 0xFF84, 0xFF83, 0xFF82, 0xFF81, 0xFF81] ++
  [0xFF80, 0xFF81, 0xFF81, 0xFF82, 0xFF83, 0xFF84, 0xFF86, 0xFF88] ++
  [0xFF8A, 0xFF8D, 0xFF90, 0xFF93, 0xFF96, 0xFF9A, 0xFF9E, 0xFFA2] ++
  [0xFFA6, 0xFFAB, 0xFFAF, 0xFFB4, 0xFFB9, 0xFFBF, 0xFFC4, 0xFFCA] ++
  [0xFFD0, 0xFFD5, 0xFFDB, 0xFFE1, 0xFFE8, 0xFFEE, 0xFFF4, 0xFFFA]

/-- The defaults of rules R10 to R13. -/
def Config.default : Config where
  lineFirst := 1
  wrapAt := 263
  vsStart := 248
  vsEnd := 251
  visTop := 32
  visBot := 232
  bpr := 20
  pixMsbFirst := true
  rxDepth := 2
  rxInVsync := true
  sin := sinTable
  mulPoints := []

/-- `SAMPLE_PERIOD` (R14): named and left open, read by no rule (R290). -/
opaque Config.samplePeriod : Nat

/-- `LINE_PERIOD` (R14): named and left open, read by no rule (R290). -/
opaque Config.linePeriod : Nat

/-- `SYNC_CYCLES` (R14): named and left open, read by no rule (R290). -/
opaque Config.syncCycles : Nat

/-- `BACKPORCH_CYCLES` (R14): named and left open, read by no rule (R290). -/
opaque Config.backporchCycles : Nat

end Sys2Proof
end

