-- ==== Sys2Proof/Machine/State.lean ====
section
/-! DEFINITION. The state of the machine: every piece of state of rule R20 as plain data, the parameters, the schedule
and the response word; the reset state of rule R271; the reasons a step can stop. -/

namespace Sys2Proof.Machine

/-- The contents of a memory of `w`-bit cells: (index, cell) pairs in one canonical form, indices strictly rising and no
cell equal to what an unlisted index reads as (`Memory.wf`). With `w = 8` an entry is a `Host.Cell`. -/
abbrev Memory (w : Nat) := List (Nat × BitVec w)

/-- The memories of rule R60. -/
inductive Space where
  | fr
  | fi
  | sin
  | txbins
  | rxbins
  | fb
  deriving DecidableEq, Repr

/-- Values of `FFT_PH` (rule R25); code 3 is never taken and does not exist here (93_implementation_defined.md I12). -/
inductive FftPhase where
  | idle
  | reorder
  | bfly
  deriving DecidableEq, Repr

/-- Values of `STR_PH` (rule R31). -/
inductive StrPhase where
  | idle
  | waitrr
  | push
  | waittxc
  deriving DecidableEq, Repr

/-- Values of `SNK_PH` (rule R50). -/
inductive SnkPhase where
  | idle
  | count
  | syncoff
  | emit
  | rpoll
  | rrd0
  | rrdyoff
  | rrdn
  deriving DecidableEq, Repr

/-- The events of the output trace (rule R45). -/
inductive Event where
  /-- `Sync(v)`: the SYNC pin was driven to level `v`. -/
  | sync (level : Bool)
  /-- `Pix(b)`: byte `b` was shifted out on the video pin. -/
  | pix (byte : Byte)
  deriving DecidableEq, Repr

/-- One entry of the schedule: what moves next (rules R75, R92). -/
inductive Turn where
  /-- A host, or the environment, presents a word on the command port. -/
  | word (w : PortWord)
  /-- The named agent takes its step, if it has one enabled. -/
  | agent (a : Agent)
  deriving DecidableEq, Repr

/-- The complete state (rule R20). A 1-bit item is a Bool, true for level 1. -/
structure State where
  /-- The parameters, and `SIN` (rules R10 to R13, R24); no step writes them. -/
  cfg : Config
  /-- `FR[0..127]` (R21). -/
  fr : Memory 16
  /-- `FI[0..127]` (R22). -/
  fi : Memory 16
  /-- `FFT_PH` (R25). -/
  fftPh : FftPhase
  /-- `FFT_DONE` (R26). -/
  fftDone : Bool
  /-- `S` (R27). -/
  regS : BitVec 3
  /-- `M` (R27). -/
  regM : BitVec 7
  /-- `I` (R27). -/
  regI : BitVec 7
  /-- `TXBINS[0..31]` (R30). -/
  txbins : Memory 8
  /-- `STR_PH` (R31). -/
  strPh : StrPhase
  /-- `CH` (R32). -/
  regCh : BitVec 4
  /-- `BY` (R32). -/
  regBy : BitVec 2
  /-- `DR` (R33). -/
  dr : Bool
  /-- `FRQ` (R34). -/
  frq : Bool
  /-- `THR` (R35). -/
  thr : Option Byte
  /-- `TSR` (R36). -/
  tsr : Option Byte
  /-- `RXQ`, head first (R39). -/
  rxq : List Byte
  /-- `OVR` (R41). -/
  ovr : Bool
  /-- `LINE` (R42). -/
  line : BitVec 9
  /-- `POL` (R43). -/
  pol : Bool
  /-- `SYNC` (R44). -/
  sync : Bool
  /-- `OUT`, oldest event first (R45). -/
  out : List Event
  /-- `FB[0..FB_SIZE-1]` (R46). -/
  fb : Memory 8
  /-- `RXBINS[0..31]` (R47). -/
  rxbins : Memory 8
  /-- `RXCNT` (R48). -/
  rxcnt : BitVec 6
  /-- `RR` (R49). -/
  rr : Bool
  /-- `SNK_PH` (R50). -/
  snkPh : SnkPhase
  /-- `COL` (R51). -/
  col : BitVec 8
  /-- `RB` (R51). -/
  rb : BitVec 3
  /-- `TICK_PEND` (R52). -/
  tickPend : Bool
  /-- `MISS` (R53). -/
  miss : Bool
  /-- The model's own: the schedule, what moves next first. DESIGN CHOICE, safe: notes/assumptions/1.md. -/
  turns : List Turn
  /-- The model's own: the last response word (R98). DESIGN CHOICE, safe: notes/assumptions/2.md. -/
  resp : Option PortWord
  deriving DecidableEq, Repr

/-- Reasons a step stops. None is the spec's: each is raised only in states no run from reset reaches. -/
inductive Fault where
  /-- A sequencer computed an index outside a memory, an access to a cell that rule R60 says does not exist. Raised by
  FFT.BFLY, STR.PUSH, RCV.RD0, RCV.RDN, RAS.EMIT; rule R65 says they never do. Safe. -/
  | noSuchCell (space : Space) (index : Nat)
  /-- RAS.EMIT on a line above the visible window, whose row index would be negative (rules R65, R185). Safe. -/
  | noSuchRow (line : Nat)
  deriving DecidableEq, Repr

/-- Reasons the model gives no meaning. -/
inductive Refusal where
  /-- Raised only by an arm of `exec` whose instruction has no meaning yet; no arm does. Safe. -/
  | notModelled (mnemonic : String)
  deriving DecidableEq, Repr

/-- The state after reset (rule R271), for a parameter set. -/
def State.resetWith (c : Config) : State where
  cfg := c
  fr := []
  fi := []
  fftPh := .idle
  fftDone := false
  regS := 0
  regM := 0
  regI := 0
  txbins := []
  strPh := .idle
  regCh := 0
  regBy := 0
  dr := false
  frq := false
  thr := none
  tsr := none
  rxq := []
  ovr := false
  line := BitVec.ofNat 9 (c.wrapAt - 1)
  pol := false
  sync := true
  out := []
  fb := []
  rxbins := []
  rxcnt := 0
  rr := false
  snkPh := .idle
  col := 0
  rb := 0
  tickPend := false
  miss := false
  turns := []
  resp := none

/-- The state after reset with the default parameters (rules R10 to R13, R271). -/
def State.reset : State := State.resetWith Config.default

end Sys2Proof.Machine
end

