-- ==== Sys2Proof/Machine/Ops.lean ====
section
/-! DEFINITION. The shared operations: sequencing of outcomes, the memories, the response word and `raise Nak`, the
scanline interrupt's entry and return, the output pin and trace, and the schedule. -/

namespace Sys2Proof.Machine

/-- What a meaning answers. -/
abbrev Result := Host.Outcome State Fault Refusal

/-- Run `k` on what the first computation answers; a fault or a refusal stands. -/
def andThen {α β : Type} (o : Host.Outcome α Fault Refusal) (k : α → Host.Outcome β Fault Refusal) :
    Host.Outcome β Fault Refusal :=
  match o with
  | .next a => k a
  | .fault r => .fault r
  | .refused r => .refused r

/-! ## Memories (rules R60, R61, R65) -/

/-- What an index that no entry lists reads as: zero, the reset contents of every writable memory (rule R271). -/
def Memory.unlisted (w : Nat) : BitVec w := 0#w

/-- The cell at an index. -/
def Memory.read {w : Nat} (m : Memory w) (a : Nat) : BitVec w :=
  match m with
  | [] => Memory.unlisted w
  | (b, v) :: rest => if a = b then v else Memory.read rest a

/-- Write a cell, keeping the canonical form: a cell that becomes what an unlisted index reads as loses its entry. -/
def Memory.write {w : Nat} (m : Memory w) (a : Nat) (v : BitVec w) : Memory w :=
  match m with
  | [] => if v = Memory.unlisted w then [] else [(a, v)]
  | (b, x) :: rest =>
    if a < b then (if v = Memory.unlisted w then (b, x) :: rest else (a, v) :: (b, x) :: rest)
    else if a = b then (if v = Memory.unlisted w then rest else (a, v) :: rest)
    else (b, x) :: Memory.write rest a v

/-- The canonical form from index `lo` on. -/
def Memory.wfFrom {w : Nat} (lo : Nat) (m : Memory w) : Bool :=
  match m with
  | [] => true
  | (a, v) :: rest => decide (lo ≤ a) && (v != Memory.unlisted w) && Memory.wfFrom (a + 1) rest

/-- The canonical form: indices strictly rising, no entry equal to what an unlisted index reads as. -/
def Memory.wf {w : Nat} (m : Memory w) : Bool := Memory.wfFrom 0 m

/-- Every listed index is one of the memory's cells. -/
def Memory.within {w : Nat} (size : Nat) (m : Memory w) : Bool := m.all (fun cell => decide (cell.1 < size))

/-- The number of cells of a memory (rule R60). -/
def spaceSize (c : Config) (sp : Space) : Nat :=
  match sp with
  | .fr => transformSize
  | .fi => transformSize
  | .sin => transformSize
  | .txbins => numBins
  | .rxbins => numBins
  | .fb => c.fbSize

/-- Go on if every named cell exists (rule R60); else the access faults. -/
def requireCells (c : Config) (cells : List (Space × Nat)) (go : Result) : Result :=
  match cells with
  | [] => go
  | (sp, i) :: rest => if i < spaceSize c sp then requireCells c rest go else .fault (.noSuchCell sp i)

/-! ## Responses and refused commands (rules R16, R98, R241) -/

/-- The response codes of rule R98. -/
inductive RespCode where
  | ack
  | nakBusy
  | nakArg
  | nakState
  deriving DecidableEq, Repr

/-- The two bits of a response code (rule R98). -/
def respCodeBits (c : RespCode) : BitVec 2 :=
  match c with
  | .ack => 0
  | .nakBusy => 1
  | .nakArg => 2
  | .nakState => 3

/-- A response word: bits 17:16 code, bits 15:0 data, the rest zero (rule R98). -/
def responseWord (c : RespCode) (data : Word) : PortWord := (0 : BitVec 14) ++ respCodeBits c ++ data

/-- Answer the port word. -/
def State.respond (s : State) (c : RespCode) (data : Word) : State := { s with resp := some (responseWord c data) }

/-- `respond ACK, data` of a command that is done. -/
def ackWith (data : Word) (s : State) : Result := .next (s.respond .ack data)

/-- `raise Nak(code)` (rules R16, R241): the command ends with the code, data 0 and no change of state. This is the
hardware's taking of an exception: it saves nothing and goes nowhere (rules R241, R248). -/
def raiseNak (c : RespCode) (s : State) : Result := .next (s.respond c 0)

/-- A command that its unit refuses while busy (rule R99, step 3). -/
def unlessBusy (busy : Bool) (s : State) (go : Result) : Result := if busy then raiseNak .nakBusy s else go

/-- A hold (rules R16, R19, R244): a micro-operation whose enabling clause is false takes no step.
DEDUCED, safe: notes/assumptions/3.md. -/
def hold (s : State) : Result := .next s

/-- A micro-operation: its effect where its enabling clause holds, else a hold. -/
def whenEnabled (enabled : Bool) (s : State) (go : Result) : Result := if enabled then go else hold s

/-! ## The scanline interrupt (rules R248, R249) and the video output (rules R44, R45) -/

/-- Entry of the scanline interrupt: the pending bit is cleared and the unit leaves IDLE; nothing is saved (R248). -/
def State.enterInvocation (s : State) : State := { s with tickPend := false, snkPh := .count }

/-- Return from the scanline interrupt: `SNK_PH <- 0` (R248). -/
def State.endInvocation (s : State) : State := { s with snkPh := .idle }

/-- Drive the SYNC pin and record the event, also when the level does not change (R45). -/
def State.driveSync (s : State) (level : Bool) : State := { s with sync := level, out := s.out ++ [.sync level] }

/-- Shift a byte out on the video pin (R45). -/
def State.shiftOut (s : State) (byte : Byte) : State := { s with out := s.out ++ [.pix byte] }

/-! ## The schedule -/

/-- The value of `FFT_PH` (rule R25). -/
def fftPhaseCode (p : FftPhase) : Byte :=
  match p with
  | .idle => 0
  | .reorder => 1
  | .bfly => 2

/-- The value of `STR_PH` (rule R31). -/
def strPhaseCode (p : StrPhase) : Byte :=
  match p with
  | .idle => 0
  | .waitrr => 1
  | .push => 2
  | .waittxc => 3

/-- The value of `SNK_PH` (rule R50). -/
def snkPhaseCode (p : SnkPhase) : Byte :=
  match p with
  | .idle => 0
  | .count => 1
  | .syncoff => 2
  | .emit => 3
  | .rpoll => 4
  | .rrd0 => 5
  | .rrdyoff => 6
  | .rrdn => 7

/-- The value `tsr_full ++ thr_full` (rule R101). -/
def linkCode (s : State) : Byte :=
  (0 : BitVec 6) ++ BitVec.ofBool s.tsr.isSome ++ BitVec.ofBool s.thr.isSome

/-- What selects an agent's micro-operation in a state (rules R95 to R97). -/
def agentCode (a : Agent) (s : State) : Code :=
  match a with
  | .fft => .phase .fftPh (fftPhaseCode s.fftPh)
  | .str => .phase .strPh (strPhaseCode s.strPh)
  | .snk => .phase .snkPh (snkPhaseCode s.snkPh)
  | .lnk => .phase .link (linkCode s)

/-- What a turn gives the decoder: the word presented, or the value that selects the agent's micro-operation. -/
def turnCode (t : Turn) (s : State) : Code :=
  match t with
  | .word w => .word w
  | .agent a => agentCode a s

/-- The schedule with its first entry taken. -/
def State.popTurn (s : State) : State := { s with turns := s.turns.tail }

/-- A turn whose code names no operation: a port word is answered NAK_ARG (rules R99, R100), an agent has no step
(rules R95 to R97). DEDUCED, safe: notes/assumptions/4.md. -/
def rejectTurn (t : Turn) (s : State) : Result :=
  match t with
  | .word _ => raiseNak .nakArg s
  | .agent _ => hold s

/-! ## Placing an instruction where the next step takes it -/

/-- Present a port word next. -/
def placeWord (w : PortWord) (s : State) : State := { s with turns := .word w :: s.turns }

/-- The phase of `SNK_PH` with a value (rule R50); a value above 7 leaves the phase as it is. -/
def snkPhaseOfCode (n : Nat) (was : SnkPhase) : SnkPhase :=
  match n with
  | 0 => .idle
  | 1 => .count
  | 2 => .syncoff
  | 3 => .emit
  | 4 => .rpoll
  | 5 => .rrd0
  | 6 => .rrdyoff
  | 7 => .rrdn
  | _ => was

/-- Give SNK the next turn in the phase with a value, and make the phase's enabling clause true: a pending tick for
RAS.SYNCON, a received byte for RCV.RD0 and RCV.RDN. DESIGN CHOICE, safe: notes/assumptions/13.md. -/
def placeSnkPhase (n : Nat) (s : State) : State :=
  { s with
    snkPh := snkPhaseOfCode n s.snkPh
    tickPend := s.tickPend || n == 0
    rxq := if (n == 5 || n == 7) && s.rxq.isEmpty then [0] else s.rxq
    turns := .agent .snk :: s.turns }

/-- Place what a code names. A value of another selecting register than `SNK_PH` gives that register's agent the next
turn and is otherwise left to the state. -/
def placeCode (c : Code) (s : State) : State :=
  match c with
  | .word w => placeWord w s
  | .phase .snkPh n => placeSnkPhase n.toNat s
  | .phase .fftPh _ => { s with turns := .agent .fft :: s.turns }
  | .phase .strPh _ => { s with turns := .agent .str :: s.turns }
  | .phase .link _ => { s with turns := .agent .lnk :: s.turns }

end Sys2Proof.Machine
end

