-- ==== Sys2Proof/Machine/Operands.lean ====
section
/-! DEFINITION. Operand forms and arithmetic: the Q8.8 primitives (rules R111 to R118), the butterfly (rule R127), the
conversions of rule R115, and the indices the sequencers compute (rule R65). -/

namespace Sys2Proof.Machine

/-! ## Q8.8 arithmetic -/

/-- `sint16(w)`, the two's-complement reading (rule R15). -/
def sint16 (a : Word) : Int := a.toInt

/-- `wrap16(v)`, the pattern of the low 16 bits (rule R15). -/
def wrap16 (v : Int) : Word := BitVec.ofInt 16 v

/-- The default of `mulfix(a, b)` (rule R111): the exact product, divided by 256 toward minus infinity, wrapped. -/
def mulfixDefault (a b : Word) : Word := wrap16 (sint16 a * sint16 b / 256)

/-- `mulfix(a, b)`, the fixed-point multiply, an argument of the model (rule R13): the parameters' value for the pair, the
default where they name none. -/
def mulfix (c : Config) (a b : Word) : Word := (c.mulPoints.lookup (a, b)).getD (mulfixDefault a b)

/-- `add16(a, b)` (rule R112). -/
def add16 (a b : Word) : Word := wrap16 (sint16 a + sint16 b)

/-- `sub16(a, b)` (rule R112). -/
def sub16 (a b : Word) : Word := wrap16 (sint16 a - sint16 b)

/-- `neg16(a)` (rule R113). -/
def neg16 (a : Word) : Word := wrap16 (-sint16 a)

/-- `asr1(a)` (rule R114): halving toward minus infinity. -/
def asr1 (a : Word) : Word := wrap16 (sint16 a / 2)

/-- `fix(r)` (rule R115), the test bench's real-to-fixed conversion: `r * 256` with its fraction dropped toward zero. -/
def fix (r : Rat) : Word := wrap16 (Int.tdiv (r * 256).num (r * 256).den)

/-- `unfix(w)` (rule R115). -/
def unfix (a : Word) : Rat := (sint16 a : Rat) / 256

/-- `rev7(i)` (rule R117): bit `b` of `i` becomes bit `6 - b`. -/
def rev7 (i : BitVec 7) : BitVec 7 :=
  i.extractLsb' 0 1 ++ i.extractLsb' 1 1 ++ i.extractLsb' 2 1 ++ i.extractLsb' 3 1 ++
    i.extractLsb' 4 1 ++ i.extractLsb' 5 1 ++ i.extractLsb' 6 1

/-! ## The butterfly -/

/-- The cell of the sine ROM at an index (rules R24, R125). -/
def sinAt (c : Config) (i : Nat) : Word := c.sin.getD i 0

/-- `L = 1 << S`, the half-span (rule R127). -/
def halfSpan (stage : Nat) : Nat := 1 <<< stage

/-- `a = M << (6 - S)`, the angle index (rule R127). -/
def angleIndex (stage m : Nat) : Nat := m <<< (6 - stage)

/-- `wr = SIN[a + 32]` (rule R118). -/
def twiddleRe (c : Config) (a : Nat) : Word := sinAt c (a + 32)

/-- `wi = neg16(SIN[a])` (rule R118). -/
def twiddleIm (c : Config) (a : Nat) : Word := neg16 (sinAt c a)

/-- A complex Q8.8 value. -/
structure Cplx where
  re : Word
  im : Word
  deriving DecidableEq, Repr

/-- The twiddle product (`tr`, `ti`) of rule R127. -/
def cmul (c : Config) (w x : Cplx) : Cplx where
  re := sub16 (mulfix c w.re x.re) (mulfix c w.im x.im)
  im := add16 (mulfix c w.re x.im) (mulfix c w.im x.re)

/-- The halved untouched operand (`qr`, `qi`) of rule R127. -/
def chalf (x : Cplx) : Cplx where
  re := asr1 x.re
  im := asr1 x.im

/-- The untouched operand's new value, `(add16(qr, tr), add16(qi, ti))` (rule R127). -/
def bflyLow (c : Config) (w x y : Cplx) : Cplx where
  re := add16 (chalf x).re (cmul c w y).re
  im := add16 (chalf x).im (cmul c w y).im

/-- The multiplied operand's new value, `(sub16(qr, tr), sub16(qi, ti))` (rule R127). -/
def bflyHigh (c : Config) (w x y : Cplx) : Cplx where
  re := sub16 (chalf x).re (cmul c w y).re
  im := sub16 (chalf x).im (cmul c w y).im

/-- The pair of arrays `FR`, `FI`. -/
abbrev Table := Memory 16 × Memory 16

/-- One entry of the pair of arrays. -/
def tableAt (t : Table) (i : Nat) : Cplx := ⟨t.1.read i, t.2.read i⟩

/-- Write one entry of the pair of arrays. -/
def tableSet (t : Table) (i : Nat) (x : Cplx) : Table := (t.1.write i x.re, t.2.write i x.im)

/-- The butterfly of rule R127 with stage `stage`, twiddle index `m`, untouched operand `i`: both entries are read
before either is written. -/
def butterfly (c : Config) (stage m i : Nat) (t : Table) : Table :=
  let w : Cplx := ⟨twiddleRe c (angleIndex stage m), twiddleIm c (angleIndex stage m)⟩
  let j := i + halfSpan stage
  tableSet (tableSet t j (bflyHigh c w (tableAt t i) (tableAt t j))) i (bflyLow c w (tableAt t i) (tableAt t j))

/-- The exchange of rule R126: the cells of `FR` at `m` and `rev7(m)`, if `rev7(m) > m`. -/
def swapCells (m : BitVec 7) (fr : Memory 16) : Memory 16 :=
  if m.toNat < (rev7 m).toNat then
    (fr.write m.toNat (fr.read (rev7 m).toNat)).write (rev7 m).toNat (fr.read m.toNat)
  else fr

/-! ## Indices and field widths -/

/-- `4*CH + BY`, the bin the Streamer pushes next (rules R32, R148). -/
def pushIndex (s : State) : Nat := 4 * s.regCh.toNat + s.regBy.toNat

/-- `(LINE - VIS_TOP)*BPR + COL`, the framebuffer byte RAS.EMIT sends (rule R185). -/
def emitIndex (s : State) : Nat := (s.line.toNat - s.cfg.visTop) * s.cfg.bpr + s.col.toNat

/-- `zext_8` of a byte as response data (rules R145, R196, R200). -/
def byteData (b : Byte) : Word := b.setWidth 16

/-- `zext_9(LINE)` as response data (rule R198). -/
def lineData (l : BitVec 9) : Word := l.setWidth 16

/-- A step count as response data, modulo 65536 (rules R93, R94). -/
def countData (n : Nat) : Word := BitVec.ofNat 16 n

end Sys2Proof.Machine
end

