-- ==== Sys2Proof/Machine/Flags.lean ====
section
/-! DEFINITION. Derived flags (rules R37, R40, R48, R57), the status words (rules R29, R38, R54), the enabling clauses of
the micro-operations (rules R126, R127, R147 to R151, R154 to R157, R182 to R185) and the counter and polarity update of
RAS.COUNT (rule R183). -/

namespace Sys2Proof.Machine

/-! ## Busy bits and derived flags -/

/-- `FFT_PH != 0` (rules R25, R119). -/
def fftBusy (s : State) : Bool := s.fftPh != .idle

/-- `STR_PH != 0` (rule R31). -/
def strBusy (s : State) : Bool := s.strPh != .idle

/-- `SNK_PH != 0` (rule R50). -/
def snkBusy (s : State) : Bool := s.snkPh != .idle

/-- `TXE`: `THR` is empty (rule R37). -/
def txe (s : State) : Bool := s.thr.isNone

/-- `TXC`: `THR` and `TSR` are empty (rule R37). -/
def txc (s : State) : Bool := s.thr.isNone && s.tsr.isNone

/-- `RXC`: the receive queue is not empty (rule R40). -/
def rxc (s : State) : Bool := !s.rxq.isEmpty

/-- `FULL`: `RXCNT = 32` (rule R48). -/
def full (s : State) : Bool := s.rxcnt == 32

/-! ## Status words -/

/-- A 1-bit field. -/
def bit (b : Bool) : BitVec 1 := BitVec.ofBool b

/-- The FFT status word (rule R29). -/
def fftStatus (s : State) : Word := (0 : BitVec 14) ++ bit s.fftDone ++ bit (fftBusy s)

/-- The Streamer status word (rule R38). -/
def strStatus (s : State) : Word :=
  (0 : BitVec 2) ++ s.regBy ++ s.regCh ++ (0 : BitVec 2) ++ bit s.frq ++ bit (txc s) ++ bit (txe s) ++ bit s.rr ++
    bit s.dr ++ bit (strBusy s)

/-- The sink status word (rule R54). -/
def snkStatus (s : State) : Word :=
  (0 : BitVec 2) ++ bit s.tickPend ++ bit s.miss ++ bit s.ovr ++ bit s.pol ++ bit s.rr ++ bit s.frq ++ bit s.dr ++
    bit (full s) ++ s.rxcnt

/-! ## The scanline -/

/-- A visible line: `VIS_TOP <= LINE < VIS_BOT` (rules R19, R184). -/
def visibleLine (c : Config) (line : Nat) : Bool := decide (c.visTop ≤ line) && decide (line < c.visBot)

/-- Statement 1 of rule R183: the incremented counter. -/
def bumpedLine (s : State) : Nat := (s.line + 1).toNat

/-- Statement 4 of rule R183: `LINE` after RAS.COUNT. -/
def countedLine (s : State) : BitVec 9 :=
  if bumpedLine s = s.cfg.wrapAt then BitVec.ofNat 9 s.cfg.lineFirst else s.line + 1

/-- Statements 2 and 3 of rule R183: `POL` after RAS.COUNT. -/
def countedPol (s : State) : Bool :=
  if bumpedLine s = s.cfg.vsEnd then false else if bumpedLine s = s.cfg.vsStart then true else s.pol

/-- Where RAS.SYNCOFF goes (rule R184). -/
def afterSyncoff (s : State) : SnkPhase :=
  if visibleLine s.cfg s.line.toNat then .emit else if s.pol && !s.cfg.rxInVsync then .idle else .rpoll

/-! ## Enabling clauses -/

/-- FFT.SWAP: `FFT_PH = 1` (R126). -/
def swapEnabled (s : State) : Bool := s.fftPh == .reorder

/-- FFT.BFLY: `FFT_PH = 2` (R127). -/
def bflyEnabled (s : State) : Bool := s.fftPh == .bfly

/-- STR.WAITRR: `STR_PH = 1` and `RR = 1` (R147). -/
def waitrrEnabled (s : State) : Bool := s.strPh == .waitrr && s.rr

/-- STR.PUSH: `STR_PH = 2` and `TXE = 1` (R148). -/
def pushEnabled (s : State) : Bool := s.strPh == .push && txe s

/-- STR.FIN: `STR_PH = 3` and `TXC = 1` (R149). -/
def finEnabled (s : State) : Bool := s.strPh == .waittxc && txc s

/-- LNK.LOAD: `THR` holds a byte and `TSR` is empty (R150). -/
def loadEnabled (s : State) : Bool := s.thr.isSome && s.tsr.isNone

/-- LNK.XFER: `TSR` holds a byte (R151). -/
def xferEnabled (s : State) : Bool := s.tsr.isSome

/-- RAS.SYNCON: `SNK_PH = 0` and `TICK_PEND = 1` (R182). -/
def synconEnabled (s : State) : Bool := s.snkPh == .idle && s.tickPend

/-- RAS.COUNT: `SNK_PH = 1` (R183). -/
def countEnabled (s : State) : Bool := s.snkPh == .count

/-- RAS.SYNCOFF: `SNK_PH = 2` (R184). -/
def syncoffEnabled (s : State) : Bool := s.snkPh == .syncoff

/-- RAS.EMIT: `SNK_PH = 3` (R185). -/
def emitEnabled (s : State) : Bool := s.snkPh == .emit

/-- RCV.POLL: `SNK_PH = 4` (R154). -/
def pollEnabled (s : State) : Bool := s.snkPh == .rpoll

/-- RCV.RD0: `SNK_PH = 5` and `RXC = 1` (R155). -/
def rd0Enabled (s : State) : Bool := s.snkPh == .rrd0 && rxc s

/-- RCV.RDYOFF: `SNK_PH = 6` (R156). -/
def rdyoffEnabled (s : State) : Bool := s.snkPh == .rrdyoff

/-- RCV.RDN: `SNK_PH = 7` and `RXC = 1` (R157). -/
def rdnEnabled (s : State) : Bool := s.snkPh == .rrdn && rxc s

/-- Whether an agent has an enabled step (rules R92, R95 to R97). -/
def agentEnabled (a : Agent) (s : State) : Bool :=
  match a with
  | .fft => swapEnabled s || bflyEnabled s
  | .str => waitrrEnabled s || pushEnabled s || finEnabled s
  | .snk => synconEnabled s || countEnabled s || syncoffEnabled s || emitEnabled s || pollEnabled s ||
      rd0Enabled s || rdyoffEnabled s || rdnEnabled s
  | .lnk => xferEnabled s || loadEnabled s

end Sys2Proof.Machine
end

