-- ==== Sys2Proof/Machine/Fft.lean ====
section
/-! DEFINITION. The FFT unit: its six commands (rules R120 to R125), its two micro-operations (rules R126, R127) and the
transform as a function (rule R128). -/

namespace Sys2Proof.Machine

/-- FFT.STAT (R120): accepted while busy. -/
def execFftStat (s : State) : Result := ackWith (fftStatus s) s

/-- FFT.LDS idx, data (R121): `FR[idx] <- data; FI[idx] <- 0; FFT_DONE <- 0`. -/
def execFftLds (idx : BitVec 7) (data : Word) (s : State) : Result :=
  unlessBusy (fftBusy s) s
    (ackWith 0 { s with fr := s.fr.write idx.toNat data, fi := s.fi.write idx.toNat 0, fftDone := false })

/-- FFT.START (R122): `FFT_PH <- 1; M <- 1; S <- 0; I <- 0; FFT_DONE <- 0`. -/
def execFftStart (s : State) : Result :=
  unlessBusy (fftBusy s) s
    (ackWith 0 { s with fftPh := .reorder, regM := 1, regS := 0, regI := 0, fftDone := false })

/-- FFT.RDR idx (R123). -/
def execFftRdr (idx : BitVec 7) (s : State) : Result := unlessBusy (fftBusy s) s (ackWith (s.fr.read idx.toNat) s)

/-- FFT.RDI idx (R124). -/
def execFftRdi (idx : BitVec 7) (s : State) : Result := unlessBusy (fftBusy s) s (ackWith (s.fi.read idx.toNat) s)

/-- FFT.RDS idx (R125): accepted while busy. -/
def execFftRds (idx : BitVec 7) (s : State) : Result := ackWith (sinAt s.cfg idx.toNat) s

/-- The sequencer's registers after one index of the reorder phase (R126). -/
def swapAdvance (s : State) : State :=
  if s.regM = 127 then { s with fftPh := .bfly, regS := 0, regM := 0, regI := 0 } else { s with regM := s.regM + 1 }

/-- FFT.SWAP (R126): one index of the bit-reversal permutation of `FR`; `FI` is not touched. -/
def execFftSwap (s : State) : Result :=
  whenEnabled (swapEnabled s) s (.next (swapAdvance { s with fr := swapCells s.regM s.fr }))

/-- The loop advance of rule R127: innermost `I`, then `M`, then `S`, then completion. -/
def bflyAdvance (s : State) : State :=
  if s.regI.toNat + 2 * halfSpan s.regS.toNat < 128 then
    { s with regI := BitVec.ofNat 7 (s.regI.toNat + 2 * halfSpan s.regS.toNat) }
  else if s.regM.toNat + 1 < halfSpan s.regS.toNat then { s with regM := s.regM + 1, regI := s.regM + 1 }
  else if s.regS.toNat + 1 < 7 then { s with regS := s.regS + 1, regM := 0, regI := 0 }
  else { s with fftPh := .idle, fftDone := true, regS := 0, regM := 0, regI := 0 }

/-- The butterfly of rule R127 on the state's `FR` and `FI`, at the sequencer's indices. -/
def bflyCells (s : State) : State :=
  let t := butterfly s.cfg s.regS.toNat s.regM.toNat s.regI.toNat (s.fr, s.fi)
  { s with fr := t.1, fi := t.2 }

/-- FFT.BFLY (R127): one butterfly. The index checks never fail on a run (R65). -/
def execFftBfly (s : State) : Result :=
  whenEnabled (bflyEnabled s) s
    (requireCells s.cfg
      [(.fr, s.regI.toNat + halfSpan s.regS.toNat), (.sin, angleIndex s.regS.toNat s.regM.toNat + 32)]
      (.next (bflyAdvance (bflyCells s))))

/-! ## The whole transform (rule R128) -/

/-- Step (1) of rule R128: `fr'[i] = fr[rev7(i)]` for every `i`, as one pass that rewrites each cell. -/
def bitReverse (fr : Memory 16) : Memory 16 :=
  (List.range transformSize).foldl (fun acc i => acc.write i (fr.read (rev7 (BitVec.ofNat 7 i)).toNat)) fr

/-- The butterflies of rule R128 step (2) in order: for each stage, each twiddle index, each position. -/
def butterflyOrder : List (Nat × Nat × Nat) :=
  (List.range 7).flatMap fun stage =>
    (List.range (1 <<< stage)).flatMap fun m =>
      (List.range (64 >>> stage)).map fun k => (stage, m, m + k * (2 <<< stage))

/-- `T(fr, fi)` of rule R128. -/
def transform (c : Config) (t : Table) : Table :=
  butterflyOrder.foldl (fun acc b => butterfly c b.1 b.2.1 b.2.2 acc) (bitReverse t.1, t.2)

end Sys2Proof.Machine
end

