-- ==== Sys2Proof/Machine/Framer.lean ====
section
/-! DEFINITION. The framer: the Streamer's commands (rules R141 to R145) and micro-operations (rules R147 to R149), the
link (rules R150, R151) and the Receiver (rules R154 to R157). -/

namespace Sys2Proof.Machine

/-! ## Streamer commands -/

/-- STR.STAT (R141): accepted while busy. -/
def execStrStat (s : State) : Result := ackWith (strStatus s) s

/-- STR.WRB idx, byte (R142). -/
def execStrWrb (idx : BitVec 5) (byte : Byte) (s : State) : Result :=
  unlessBusy (strBusy s) s (ackWith 0 { s with txbins := s.txbins.write idx.toNat byte })

/-- STR.SEND (R143): `DR <- 1; CH <- 0; BY <- 0; STR_PH <- 1`. -/
def execStrSend (s : State) : Result :=
  unlessBusy (strBusy s) s (ackWith 0 { s with dr := true, regCh := 0, regBy := 0, strPh := .waitrr })

/-- STR.SETFR bit (R144): accepted while busy. -/
def execStrSetfr (bit : Bool) (s : State) : Result := ackWith 0 { s with frq := bit }

/-- STR.RDB idx (R145): accepted while busy. -/
def execStrRdb (idx : BitVec 5) (s : State) : Result := ackWith (byteData (s.txbins.read idx.toNat)) s

/-! ## Streamer micro-operations -/

/-- STR.WAITRR (R147). -/
def execStrWaitrr (s : State) : Result := whenEnabled (waitrrEnabled s) s (.next { s with strPh := .push })

/-- The counters and phase after a push (R148). -/
def pushAdvance (s : State) : State :=
  if s.regBy = 3 then
    { s with regBy := 0, regCh := s.regCh + 1, strPh := if s.regCh + 1 = 8 then .waittxc else .waitrr }
  else { s with regBy := s.regBy + 1 }

/-- STR.PUSH (R148): the next byte of the frame into `THR`. The index check never fails on a run (R65). -/
def execStrPush (s : State) : Result :=
  whenEnabled (pushEnabled s) s
    (requireCells s.cfg [(.txbins, pushIndex s)]
      (.next (pushAdvance { s with thr := some (s.txbins.read (pushIndex s)) })))

/-- STR.FIN (R149): `DR <- 0; STR_PH <- 0`. -/
def execStrFin (s : State) : Result := whenEnabled (finEnabled s) s (.next { s with dr := false, strPh := .idle })

/-! ## The link -/

/-- LNK.LOAD (R150): `TSR <- THR; THR <- empty`. -/
def execLnkLoad (s : State) : Result := whenEnabled (loadEnabled s) s (.next { s with tsr := s.thr, thr := none })

/-- A byte arrives at the receive queue: appended, or lost with `OVR <- 1` when the queue is full (R151). -/
def arrive (b : Byte) (s : State) : State :=
  if s.rxq.length < s.cfg.rxDepth then { s with rxq := s.rxq ++ [b] } else { s with ovr := true }

/-- LNK.XFER (R151). -/
def execLnkXfer (s : State) : Result :=
  match s.tsr with
  | some b => .next { arrive b s with tsr := none }
  | none => hold s

/-! ## Receiver micro-operations -/

/-- RCV.POLL (R154): accept a chunk when `DR = 1` and `RXCNT < 32`, else end the invocation. -/
def execRcvPoll (s : State) : Result :=
  whenEnabled (pollEnabled s) s
    (.next (if s.dr && decide (s.rxcnt.toNat < 32) then { s with rr := true, rb := 0, snkPh := .rrd0 }
      else s.endInvocation))

/-- Remove the head of `RXQ` into `RXBINS[RXCNT]` and count it (R155, R157). The index check never fails on a run (R65). -/
def takeByte (s : State) (go : State → Result) : Result :=
  match s.rxq with
  | b :: rest =>
    requireCells s.cfg [(.rxbins, s.rxcnt.toNat)]
      (go { s with rxq := rest, rxbins := s.rxbins.write s.rxcnt.toNat b, rxcnt := s.rxcnt + 1 })
  | [] => hold s

/-- RCV.RD0 (R155): the first byte of a chunk. -/
def execRcvRd0 (s : State) : Result :=
  whenEnabled (rd0Enabled s) s (takeByte s fun t => .next { t with rb := 1, snkPh := .rrdyoff })

/-- RCV.RDYOFF (R156): `RR <- 0`. -/
def execRcvRdyoff (s : State) : Result :=
  whenEnabled (rdyoffEnabled s) s (.next { s with rr := false, snkPh := .rrdn })

/-- RCV.RDN (R157): a further byte of the chunk; the fourth ends the invocation. -/
def execRcvRdn (s : State) : Result :=
  whenEnabled (rdnEnabled s) s
    (takeByte s fun t =>
      .next (if t.rb + 1 = 4 then { t with rb := 0 }.endInvocation else { t with rb := t.rb + 1 }))

end Sys2Proof.Machine
end

