-- ==== Sys2Proof/Machine/Raster.lean ====
section
/-! DEFINITION. The Raster Engine's micro-operations (rules R182 to R185) and the sink host commands (rules R194 to
R200). -/

namespace Sys2Proof.Machine

/-! ## Raster micro-operations -/

/-- RAS.SYNCON (R182, R248): entry of the scanline interrupt and leading edge of the sync pulse, with the polarity the
previous line left. -/
def execRasSyncon (s : State) : Result :=
  whenEnabled (synconEnabled s) s (.next (s.enterInvocation.driveSync s.pol))

/-- RAS.COUNT (R183): the scanline counter and the polarity. -/
def execRasCount (s : State) : Result :=
  whenEnabled (countEnabled s) s
    (.next { s with line := countedLine s, pol := countedPol s, snkPh := .syncoff })

/-- RAS.SYNCOFF (R184): trailing edge of the sync pulse and the choice of what the line does. -/
def execRasSyncoff (s : State) : Result :=
  whenEnabled (syncoffEnabled s) s
    (.next
      { s.driveSync (!s.pol) with
        snkPh := afterSyncoff s
        col := if visibleLine s.cfg s.line.toNat then 0 else s.col })

/-- The column and phase after a byte of the row (R185). -/
def emitAdvance (s : State) : State :=
  if s.col.toNat = s.cfg.bpr - 1 then { s with col := 0 }.endInvocation else { s with col := s.col + 1 }

/-- RAS.EMIT (R185): one byte of the visible row. The index checks never fail on a run (R65). -/
def execRasEmit (s : State) : Result :=
  whenEnabled (emitEnabled s) s
    (if s.line.toNat < s.cfg.visTop then .fault (.noSuchRow s.line.toNat)
     else requireCells s.cfg [(.fb, emitIndex s)] (.next (emitAdvance (s.shiftOut (s.fb.read (emitIndex s))))))

/-! ## Sink host commands -/

/-- SNK.STAT (R195). -/
def execSnkStat (s : State) : Result := unlessBusy (snkBusy s) s (ackWith (snkStatus s) s)

/-- SNK.RDB idx (R196). -/
def execSnkRdb (idx : BitVec 5) (s : State) : Result :=
  unlessBusy (snkBusy s) s (ackWith (byteData (s.rxbins.read idx.toNat)) s)

/-- SNK.RSTCNT (R197): refused with NAK_STATE unless `RXCNT = 32`. -/
def execSnkRstcnt (s : State) : Result :=
  unlessBusy (snkBusy s) s (if full s then ackWith 0 { s with rxcnt := 0 } else raiseNak .nakState s)

/-- SNK.RDLINE (R198). -/
def execSnkRdline (s : State) : Result := unlessBusy (snkBusy s) s (ackWith (lineData s.line) s)

/-- A framebuffer command whose address is out of range is refused with NAK_ARG before anything else (R99, R242). -/
def withFbAddr (addr : BitVec 16) (s : State) (go : Result) : Result :=
  if addr.toNat < s.cfg.fbSize then go else raiseNak .nakArg s

/-- SNK.WRFB addr, byte (R199). -/
def execSnkWrfb (addr : BitVec 16) (byte : Byte) (s : State) : Result :=
  withFbAddr addr s (unlessBusy (snkBusy s) s (ackWith 0 { s with fb := s.fb.write addr.toNat byte }))

/-- SNK.RDFB addr (R200). -/
def execSnkRdfb (addr : BitVec 16) (s : State) : Result :=
  withFbAddr addr s (unlessBusy (snkBusy s) s (ackWith (byteData (s.fb.read addr.toNat)) s))

end Sys2Proof.Machine
end

