-- ==== Sys2Proof/Machine/Events.lean ====
section
/-! DEFINITION. The sequencers as agents (rules R95 to R97) and the event words (rules R91 to R94, R181). -/

namespace Sys2Proof.Machine

/-- The FFT sequencer's micro-operation (R95). -/
def stepFft (s : State) : Result :=
  match s.fftPh with
  | .idle => hold s
  | .reorder => execFftSwap s
  | .bfly => execFftBfly s

/-- The Streamer's micro-operation (R96). -/
def stepStr (s : State) : Result :=
  match s.strPh with
  | .idle => hold s
  | .waitrr => execStrWaitrr s
  | .push => execStrPush s
  | .waittxc => execStrFin s

/-- The sink unit's micro-operation (R97). -/
def stepSnk (s : State) : Result :=
  match s.snkPh with
  | .idle => execRasSyncon s
  | .count => execRasCount s
  | .syncoff => execRasSyncoff s
  | .emit => execRasEmit s
  | .rpoll => execRcvPoll s
  | .rrd0 => execRcvRd0 s
  | .rrdyoff => execRcvRdyoff s
  | .rrdn => execRcvRdn s

/-- The link's micro-operation (R97): LNK.XFER when `TSR` holds a byte, else LNK.LOAD when `THR` does. -/
def stepLnk (s : State) : Result :=
  if s.tsr.isSome then execLnkXfer s else if s.thr.isSome then execLnkLoad s else hold s

/-- The micro-operation of an agent; a hold when it has none enabled. -/
def stepAgent (a : Agent) (s : State) : Result :=
  match a with
  | .fft => stepFft s
  | .str => stepStr s
  | .snk => stepSnk s
  | .lnk => stepLnk s

/-- A run's answer: the state it ends in and the number of steps taken. -/
abbrev RunResult := Host.Outcome (State × Nat) Fault Refusal

/-- Count the steps already taken. -/
def addSteps (n : Nat) (r : State × Nat) : State × Nat := (r.1, r.2 + n)

/-- An agent takes micro-operations until it has none enabled (R93), at most `fuel` of them. -/
def runAgent (a : Agent) (fuel : Nat) (s : State) : RunResult :=
  match fuel with
  | 0 => .next (s, 0)
  | n + 1 =>
    if agentEnabled a s then
      andThen (stepAgent a s) fun t => andThen (runAgent a n t) fun r => .next (addSteps 1 r)
    else .next (s, 0)

/-- More steps than any agent can take in one run (R93): 575 for the FFT sequencer, at most two invocations for SNK.
DEDUCED, safe: notes/assumptions/10.md. -/
def runFuel : Nat := 1024

/-- `EVT.RUN a`, as part of a round: run and add to the steps taken so far. -/
def runNext (a : Agent) (r : State × Nat) : RunResult :=
  andThen (runAgent a runFuel r.1) fun q => .next (addSteps r.2 q)

/-- One round of rule R94: STR, LNK, SNK, FFT. -/
def settleRound (s : State) : RunResult :=
  andThen (runAgent .str runFuel s) fun r1 =>
    andThen (runNext .lnk r1) fun r2 => andThen (runNext .snk r2) fun r3 => runNext .fft r3

/-- Rounds until one takes no step (R94), at most `fuel` of them. -/
def settleRounds (fuel : Nat) (s : State) : RunResult :=
  match fuel with
  | 0 => .next (s, 0)
  | n + 1 =>
    andThen (settleRound s) fun r =>
      if r.2 = 0 then .next r else andThen (settleRounds n r.1) fun q => .next (addSteps r.2 q)

/-- More rounds than the steps a settle can take outside the FFT unit (R94). DEDUCED, safe: notes/assumptions/10.md. -/
def settleFuel : Nat := 1024

/-- EVT.LINE (R181): a tick; a second one while the first is pending is lost and sets `MISS`. -/
def execEvtLine (s : State) : Result := ackWith 0 { s with miss := s.miss || s.tickPend, tickPend := true }

/-- EVT.STEP agent (R92): data 1 if a step was taken, 0 if the agent had none enabled. -/
def execEvtStep (a : Agent) (s : State) : Result :=
  if agentEnabled a s then andThen (stepAgent a s) (ackWith 1) else ackWith 0 s

/-- EVT.RUN agent (R93): data is the number of steps taken, modulo 65536. -/
def execEvtRun (a : Agent) (s : State) : Result :=
  andThen (runAgent a runFuel s) fun r => ackWith (countData r.2) r.1

/-- EVT.SETTLE (R94): data is the total number of steps, modulo 65536. -/
def execEvtSettle (s : State) : Result :=
  andThen (settleRounds settleFuel s) fun r => ackWith (countData r.2) r.1

end Sys2Proof.Machine
end

