-- ==== Sys2Proof/Machine/Dispatch.lean ====
section
/-! DEFINITION. One arm per constructor of `Instr`, each a direct call of its meaning. -/

namespace Sys2Proof.Machine

/-- The effect of an operation on a state. -/
def exec (i : Instr) (s : State) : Host.Outcome State Fault Refusal :=
  match i with
  | .fftStat => Sys2Proof.Machine.execFftStat s
  | .fftLds idx data => Sys2Proof.Machine.execFftLds idx data s
  | .fftStart => Sys2Proof.Machine.execFftStart s
  | .fftRdr idx => Sys2Proof.Machine.execFftRdr idx s
  | .fftRdi idx => Sys2Proof.Machine.execFftRdi idx s
  | .fftRds idx => Sys2Proof.Machine.execFftRds idx s
  | .strStat => Sys2Proof.Machine.execStrStat s
  | .strWrb idx byte => Sys2Proof.Machine.execStrWrb idx byte s
  | .strSend => Sys2Proof.Machine.execStrSend s
  | .strSetfr bit => Sys2Proof.Machine.execStrSetfr bit s
  | .strRdb idx => Sys2Proof.Machine.execStrRdb idx s
  | .snkStat => Sys2Proof.Machine.execSnkStat s
  | .snkRdb idx => Sys2Proof.Machine.execSnkRdb idx s
  | .snkRstcnt => Sys2Proof.Machine.execSnkRstcnt s
  | .snkRdline => Sys2Proof.Machine.execSnkRdline s
  | .snkWrfb addr byte => Sys2Proof.Machine.execSnkWrfb addr byte s
  | .snkRdfb addr => Sys2Proof.Machine.execSnkRdfb addr s
  | .evtLine => Sys2Proof.Machine.execEvtLine s
  | .evtStep a => Sys2Proof.Machine.execEvtStep a s
  | .evtRun a => Sys2Proof.Machine.execEvtRun a s
  | .evtSettle => Sys2Proof.Machine.execEvtSettle s
  | .fftSwap => Sys2Proof.Machine.execFftSwap s
  | .fftBfly => Sys2Proof.Machine.execFftBfly s
  | .strWaitrr => Sys2Proof.Machine.execStrWaitrr s
  | .strPush => Sys2Proof.Machine.execStrPush s
  | .strFin => Sys2Proof.Machine.execStrFin s
  | .rasSyncon => Sys2Proof.Machine.execRasSyncon s
  | .rasCount => Sys2Proof.Machine.execRasCount s
  | .rasSyncoff => Sys2Proof.Machine.execRasSyncoff s
  | .rasEmit => Sys2Proof.Machine.execRasEmit s
  | .rcvPoll => Sys2Proof.Machine.execRcvPoll s
  | .rcvRd0 => Sys2Proof.Machine.execRcvRd0 s
  | .rcvRdyoff => Sys2Proof.Machine.execRcvRdyoff s
  | .rcvRdn => Sys2Proof.Machine.execRcvRdn s
  | .lnkLoad => Sys2Proof.Machine.execLnkLoad s
  | .lnkXfer => Sys2Proof.Machine.execLnkXfer s

end Sys2Proof.Machine
end

