-- ==== Sys2Proof/Machine/Step.lean ====
section
/-! DEFINITION. One step of the machine (rules R75, R99): the schedule's first entry is taken and what it names is done. -/

namespace Sys2Proof.Machine

/-- Take the first turn: decode the word it presents, or the value that selects its agent's micro-operation, and execute
it. With no turn nobody moves and the state stays as it is (notes/assumptions/1.md). -/
def step (s : State) : Host.Outcome State Fault Refusal :=
  match s.turns with
  | [] => .next s
  | t :: _ =>
    match decode (turnCode t s) with
    | .ok i => exec i s.popTurn
    | .error _ => rejectTurn t s.popTurn

/-- The state with an opcode-table word placed where the next step takes it. -/
def State.withFetchWord (s : State) (nbits w : Nat) : State := placeCode (tableCode nbits w) s

end Sys2Proof.Machine
end

