-- ==== Sys2Proof/WellFormed.lean ====
section
/-! DEFINITION. The checks on terms: a parameter set meets the constraints of rules R10 to R12, and an instruction's
operands are in range for it (rule R99). -/

namespace Sys2Proof

/-- The constraints every instantiation must meet (rules R10 to R13), and the widths of rule R20 that bound `WRAP_AT`
(9 bits) and `BPR` (8 bits). A set that fails is not an instantiation (93_implementation_defined.md I14).
DEDUCED, safe: see notes/assumptions/6.md. -/
def Config.valid (c : Config) : Bool :=
  decide (c.lineFirst ≤ c.visTop) &&
  decide (c.visTop < c.visBot) &&
  decide (c.visBot ≤ c.vsStart) &&
  decide (c.vsStart < c.vsEnd) &&
  decide (c.vsEnd < c.wrapAt) &&
  decide (c.wrapAt < 512) &&
  decide (c.visTop - c.lineFirst = c.wrapAt - c.visBot) &&
  decide (numChunks ≤ c.lines - c.visLines) &&
  decide (0 < c.bpr) &&
  decide (c.bpr < 256) &&
  decide (0 < c.rxDepth) &&
  decide (c.sin.length = transformSize)

/-- The operand ranges of rule R99 that the operand's own type does not already give: a framebuffer address is below
`FB_SIZE`. -/
def Instr.wf (c : Config) (i : Instr) : Bool :=
  match i with
  | .snkWrfb addr _ => decide (addr.toNat < c.fbSize)
  | .snkRdfb addr => decide (addr.toNat < c.fbSize)
  | .fftStat => true
  | .fftLds _ _ => true
  | .fftStart => true
  | .fftRdr _ => true
  | .fftRdi _ => true
  | .fftRds _ => true
  | .strStat => true
  | .strWrb _ _ => true
  | .strSend => true
  | .strSetfr _ => true
  | .strRdb _ => true
  | .snkStat => true
  | .snkRdb _ => true
  | .snkRstcnt => true
  | .snkRdline => true
  | .evtLine => true
  | .evtStep _ => true
  | .evtRun _ => true
  | .evtSettle => true
  | .fftSwap => true
  | .fftBfly => true
  | .strWaitrr => true
  | .strPush => true
  | .strFin => true
  | .rasSyncon => true
  | .rasCount => true
  | .rasSyncoff => true
  | .rasEmit => true
  | .rcvPoll => true
  | .rcvRd0 => true
  | .rcvRdyoff => true
  | .rcvRdn => true
  | .lnkLoad => true
  | .lnkXfer => true

end Sys2Proof
end

