-- ==== Sys2Proof/Safety.lean ====
section
/-! DEFINITION. What the claims are stated in terms of: the invariant of every reachable state, runs of an agent, refused
commands, the opcode table, the scanline counter over a frame, the byte stream over the link (rules R152, R158), runs of
the machine with premises P1, P2 and P3 (rules R281, R284), permanent stalls (rule R283) and the exactness predicate of rule R116. None
is read by the step. -/

namespace Sys2Proof.Machine

/-! ## The invariant of every reachable state -/

/-- The five writable memories are in canonical form and list only cells that exist (rule R60). -/
abbrev MemoriesOk (s : State) : Prop :=
  (Memory.wf s.fr = true ∧ Memory.within transformSize s.fr = true) ∧
  (Memory.wf s.fi = true ∧ Memory.within transformSize s.fi = true) ∧
  (Memory.wf s.txbins = true ∧ Memory.within numBins s.txbins = true) ∧
  (Memory.wf s.rxbins = true ∧ Memory.within numBins s.rxbins = true) ∧
  (Memory.wf s.fb = true ∧ Memory.within s.cfg.fbSize s.fb = true)

/-- The FFT sequencer's loop registers: 0 when idle, in the ranges of rule R27 and on a butterfly's untouched operand
when busy (rules R27, R126, R127); `DONE` only when idle (rule R120). -/
abbrev FftOk (s : State) : Prop :=
  (s.fftPh = .idle → s.regS = 0 ∧ s.regM = 0 ∧ s.regI = 0) ∧
  (s.fftPh = .reorder → s.regS = 0 ∧ s.regI = 0 ∧ 0 < s.regM.toNat) ∧
  (s.fftPh = .bfly → s.regS.toNat < 7 ∧ s.regM.toNat < halfSpan s.regS.toNat ∧
    s.regI.toNat % (2 * halfSpan s.regS.toNat) = s.regM.toNat) ∧
  (s.fftDone = true → s.fftPh = .idle)

/-- The Streamer's counters and the line `DR` by phase (rules R32, R83, R147 to R149); an idle Streamer has an empty
transmitter (rule R143). -/
abbrev StreamerOk (s : State) : Prop :=
  (s.dr = true ↔ s.strPh ≠ .idle) ∧
  (s.strPh = .idle → s.thr = none ∧ s.tsr = none ∧ s.regBy = 0 ∧ (s.regCh = 0 ∨ s.regCh = 8)) ∧
  (s.strPh = .waitrr → s.regBy = 0 ∧ s.regCh.toNat < 8) ∧
  (s.strPh = .push → s.regCh.toNat < 8) ∧
  (s.strPh = .waittxc → s.regBy = 0 ∧ s.regCh = 8)

/-- The Receiver's counters and the line `RR` by phase (rules R39, R48, R51, R83, R154 to R157). -/
abbrev ReceiverOk (s : State) : Prop :=
  s.rxq.length ≤ s.cfg.rxDepth ∧ s.rxcnt.toNat ≤ 32 ∧ s.rxcnt.toNat % 4 = s.rb.toNat ∧
  (s.rr = true ↔ s.snkPh = .rrd0 ∨ s.snkPh = .rrdyoff) ∧
  (s.snkPh ≠ .rrdyoff → s.snkPh ≠ .rrdn → s.rb = 0) ∧
  (s.snkPh = .rrd0 → s.rxcnt.toNat < 32) ∧
  (s.snkPh = .rrdyoff → s.rb = 1) ∧
  (s.snkPh = .rrdn → s.rb ≠ 0)

/-- The scanline counter, the polarity, the column and the sync pin (rules R42, R43, R51, R182 to R186). -/
abbrev RasterOk (s : State) : Prop :=
  s.cfg.lineFirst ≤ s.line.toNat ∧ s.line.toNat < s.cfg.wrapAt ∧
  (s.pol = true ↔ s.cfg.vsStart ≤ s.line.toNat ∧ s.line.toNat < s.cfg.vsEnd) ∧
  (s.snkPh = .emit → visibleLine s.cfg s.line.toNat = true ∧ s.col.toNat < s.cfg.bpr) ∧
  (s.snkPh ≠ .emit → s.col = 0) ∧
  ((s.snkPh = .rpoll ∨ s.snkPh = .rrd0 ∨ s.snkPh = .rrdyoff ∨ s.snkPh = .rrdn) →
    visibleLine s.cfg s.line.toNat = false) ∧
  (s.snkPh ≠ .count → s.snkPh ≠ .syncoff → s.sync = !s.pol)

/-- A response word: bits 31:18 zero, and data zero unless the code is ACK (rule R98). -/
def responseShape (w : PortWord) : Bool :=
  decide (w.toNat < 2 ^ 18) && (w.extractLsb' 16 2 == 0 || w.extractLsb' 0 16 == 0)

/-- The response word, if there is one, has the shape of rule R98. -/
abbrev ResponseOk (s : State) : Prop := s.resp.all responseShape = true

/-- The invariant: the parameters are an instantiation and every unit is in order. The schedule is unconstrained. -/
structure MachineOk (s : State) : Prop where
  config : s.cfg.valid = true
  memories : MemoriesOk s
  fft : FftOk s
  streamer : StreamerOk s
  receiver : ReceiverOk s
  raster : RasterOk s
  response : ResponseOk s

/-! ## Micro-operations and runs -/

/-- The operations no port word encodes (rule R101). -/
def isMicro (i : Instr) : Bool :=
  match encode i with
  | .word _ => false
  | .phase _ _ => true

/-- The commands of the three units, presented by a host (rules R88 to R90): port words that are no event words. -/
def isCommand (i : Instr) : Bool :=
  match encode i with
  | .word w => unitField w != 0xE
  | .phase _ _ => false

/-- `n` enabled steps of one agent lead from `s` to `t`: `n` answers of data 1 to EVT.STEP (rules R92, R93). -/
def TakesSteps (a : Agent) (n : Nat) (s t : State) : Prop :=
  match n with
  | 0 => s = t
  | k + 1 => agentEnabled a s = true ∧ ∃ u, stepAgent a s = .next u ∧ TakesSteps a k u t

/-- One round of rule R94 with `n` steps in all: STR, LNK, SNK and FFT in turn, each until it has no enabled step. -/
def TakesRound (n : Nat) (s t : State) : Prop :=
  ∃ a b c d u v w, TakesSteps .str a s u ∧ agentEnabled .str u = false ∧ TakesSteps .lnk b u v ∧
    agentEnabled .lnk v = false ∧ TakesSteps .snk c v w ∧ agentEnabled .snk w = false ∧ TakesSteps .fft d w t ∧
    agentEnabled .fft t = false ∧ n = a + b + c + d

/-- `k` rounds, each with at least one step and `n` steps in all (rule R94). -/
def TakesRounds (k n : Nat) (s t : State) : Prop :=
  match k with
  | 0 => s = t ∧ n = 0
  | j + 1 => ∃ m p u, TakesRound m s u ∧ 0 < m ∧ TakesRounds j p u t ∧ n = m + p

/-- No agent has an enabled step. -/
abbrev AllHold (s : State) : Prop :=
  agentEnabled .fft s = false ∧ agentEnabled .str s = false ∧ agentEnabled .snk s = false ∧ agentEnabled .lnk s = false

/-! ## Refused commands (rules R99, R241, R242) -/

/-- The causes of NAK_BUSY of rule R241: the command's unit refuses it while busy, and is busy. -/
def refusedBusy (i : Instr) (s : State) : Bool :=
  match i with
  | .fftLds _ _ => s.fftPh != .idle
  | .fftStart => s.fftPh != .idle
  | .fftRdr _ => s.fftPh != .idle
  | .fftRdi _ => s.fftPh != .idle
  | .strWrb _ _ => s.strPh != .idle
  | .strSend => s.strPh != .idle
  | .snkStat => s.snkPh != .idle
  | .snkRdb _ => s.snkPh != .idle
  | .snkRstcnt => s.snkPh != .idle
  | .snkRdline => s.snkPh != .idle
  | .snkWrfb _ _ => s.snkPh != .idle
  | .snkRdfb _ => s.snkPh != .idle
  | .fftStat => false
  | .fftRds _ => false
  | .strStat => false
  | .strSetfr _ => false
  | .strRdb _ => false
  | .evtLine => false
  | .evtStep _ => false
  | .evtRun _ => false
  | .evtSettle => false
  | .fftSwap => false
  | .fftBfly => false
  | .strWaitrr => false
  | .strPush => false
  | .strFin => false
  | .rasSyncon => false
  | .rasCount => false
  | .rasSyncoff => false
  | .rasEmit => false
  | .rcvPoll => false
  | .rcvRd0 => false
  | .rcvRdyoff => false
  | .rcvRdn => false
  | .lnkLoad => false
  | .lnkXfer => false

/-- The code a port word is answered with, in the priority of rule R242: NAK_ARG, then NAK_BUSY, then NAK_STATE. -/
def expectedCode (w : PortWord) (s : State) : RespCode :=
  match decode (.word w) with
  | .error _ => .nakArg
  | .ok i =>
    if i.wf s.cfg = false then .nakArg
    else if refusedBusy i s = true then .nakBusy
    else if i = .snkRstcnt ∧ s.rxcnt ≠ 32 then .nakState
    else .ack

/-! ## The opcode table (rules R88 to R94) -/

/-- (mask, match) of the rows of spec/opcode_table.json that are port words, in the table's order. -/
def wordRows : List (PortWord × PortWord) :=
  [(0xFFFFFFFF, 0x10000000), (0xFF800000, 0x11000000), (0xFFFFFFFF, 0x12000000), (0xFF80FFFF, 0x13000000),
   (0xFF80FFFF, 0x14000000), (0xFF80FFFF, 0x15000000)] ++
  [(0xFFFFFFFF, 0x20000000), (0xFFE0FF00, 0x21000000), (0xFFFFFFFF, 0x22000000), (0xFFFFFFFE, 0x23000000),
   (0xFFE0FFFF, 0x24000000)] ++
  [(0xFFFFFFFF, 0x30000000), (0xFFE0FFFF, 0x31000000), (0xFFFFFFFF, 0x32000000), (0xFFFFFFFF, 0x33000000),
   (0xFF000000, 0x34000000), (0xFF0000FF, 0x35000000)] ++
  [(0xFFFFFFFF, 0xE1000000), (0xFFF8FFFF, 0xE2000000), (0xFFF8FFFF, 0xE3000000), (0xFFFFFFFF, 0xE4000000)]

/-- The two agent words name an agent in 1..4 (rules R92, R93); the table's masks leave 0 and 5..7 open. -/
def agentInRange (w : PortWord) : Bool :=
  !(unitField w == 0xE && (opField w == 2 || opField w == 3)) ||
    (decide (1 ≤ (idxField w).toNat) && decide ((idxField w).toNat ≤ 4))

/-! ## The scanline counter over a frame (rule R187) -/

/-- What RAS.COUNT does to the counter and the polarity (rule R183), by itself. -/
def nextScanline (s : State) : State := { s with line := countedLine s, pol := countedPol s }

/-- The state after `k` invocations' counts. -/
def scanlineAfter (k : Nat) (s : State) : State :=
  match k with
  | 0 => s
  | j + 1 => scanlineAfter j (nextScanline s)

/-! ## The byte stream over the link (rules R62, R148, R152, R158) -/

/-- The bytes received this frame, in index order. -/
def received (s : State) : List Byte := (List.range s.rxcnt.toNat).map s.rxbins.read

/-- The bytes between the two nodes, the next to be received first: `RXQ`, then `TSR`, then `THR`. -/
def inFlight (s : State) : List Byte := s.rxq ++ s.tsr.toList ++ s.thr.toList

/-- The state's place in the stream `f` of all bytes ever pushed, frame after frame: `p` bytes have been pushed and `r`
received since reset. What is on the way are the bytes `r` to `p - 1`; `RXBINS` holds the last `RXCNT` bytes received,
which begin at a frame boundary; the frame being pushed is `TXBINS`, and it begins at a frame boundary. -/
abbrev Streamed (f : Nat → Byte) (p r : Nat) (s : State) : Prop :=
  r ≤ p ∧ s.rxcnt.toNat ≤ r ∧ pushIndex s ≤ p ∧ (r - s.rxcnt.toNat) % 32 = 0 ∧ (p - pushIndex s) % 32 = 0 ∧
  inFlight s = (List.range (p - r)).map (fun k => f (r + k)) ∧
  received s = (List.range s.rxcnt.toNat).map (fun k => f (r - s.rxcnt.toNat + k)) ∧
  (s.strPh ≠ .idle → ∀ k < 32, s.txbins.read k = f (p - pushIndex s + k))

/-- P2 at a state: a ready line that STR.WAITRR could see is not the assertion of an earlier chunk (rule R281). -/
abbrev ReadyNotStale (s : State) : Prop :=
  ¬(s.rr = true ∧ s.regCh.toNat ≠ (s.rxcnt.toNat - s.rb.toNat) / 4)

/-- At most one chunk is between the nodes, and while a chunk is being pushed at most the bytes pushed of it. -/
abbrev Paced (s : State) : Prop :=
  (inFlight s).length ≤ 4 ∧ (s.strPh = .push → (inFlight s).length ≤ s.regBy.toNat)

/-! ## Runs, and the premises on their interleaving (rules R158, R159, R281) -/

/-- The state after a step; a step with no next state leaves it. -/
def nextState (s : State) : State :=
  match step s with
  | .next t => t
  | .fault _ => s
  | .refused _ => s

/-- The state after `k` steps. -/
def stateAt (s : State) (k : Nat) : State :=
  match k with
  | 0 => s
  | j + 1 => nextState (stateAt s j)

/-- Of the steps before the `n`th, the number whose state satisfies `p`. -/
def stepsWith (p : State → Bool) (s : State) (n : Nat) : Nat := (List.range n).countP fun k => p (stateAt s k)

/-- Some state strictly between the `i`th and the `j`th satisfies `p`. -/
def someBetween (p : State → Bool) (s : State) (i j : Nat) : Bool :=
  (List.range (j - (i + 1))).any fun k => p (stateAt s (i + 1 + k))

/-- The agent that a turn gives one step: its own turn, or the word EVT.STEP (rule R92). -/
def turnAgent (t : Turn) : Option Agent :=
  match t with
  | .agent a => some a
  | .word w =>
    match decode (.word w) with
    | .ok (.evtStep a) => some a
    | _ => none

/-- A turn that is at most one step of an agent: every turn but the words EVT.RUN and EVT.SETTLE, which are the turns of
the steps they take (rules R93, R94). DESIGN CHOICE, safe: notes/assumptions/23.md. -/
def singleTurn (t : Turn) : Bool :=
  match t with
  | .agent _ => true
  | .word w =>
    match decode (.word w) with
    | .ok (.evtRun _) => false
    | .ok .evtSettle => false
    | _ => true

/-- The next step is an enabled step of the agent. -/
def agentMoves (a : Agent) (s : State) : Bool := (s.turns.head?.bind turnAgent == some a) && agentEnabled a s

/-- The next step is LNK.XFER. -/
def xferMoves (s : State) : Bool := agentMoves .lnk s && s.tsr.isSome

/-- The next step is STR.WAITRR. -/
def waitrrMoves (s : State) : Bool := agentMoves .str s && s.strPh == .waitrr

/-- The next step is RCV.POLL and accepts a chunk (rule R154). -/
def acceptMoves (s : State) : Bool :=
  agentMoves .snk s && s.snkPh == .rpoll && s.dr && decide (s.rxcnt.toNat < 32)

/-- The next step is an accepted STR.SEND (rule R143). -/
def sendMoves (s : State) : Bool := decide (s.turns.head? = some (.word 0x22000000)) && s.strPh == .idle

/-- The next step is an accepted SNK.RSTCNT (rule R197). -/
def rearmMoves (s : State) : Bool :=
  decide (s.turns.head? = some (.word 0x32000000)) && s.snkPh == .idle && s.rxcnt == 32

/-- The reset state with a schedule: a run of the machine. -/
def State.resetRun (c : Config) (ts : List Turn) : State := { State.resetWith c with turns := ts }

/-- P1 over the first `n` steps from `s`, the Receiver keeps up (rule R281): between two consecutive LNK.XFER steps `i` and
`j`, if the sink unit has an enabled step at some point, it takes at least one. -/
abbrev ReceiverKeepsUp (s : State) (n : Nat) : Prop :=
  ∀ j < n, ∀ i < j,
    xferMoves (stateAt s i) = true ∧ xferMoves (stateAt s j) = true ∧ someBetween xferMoves s i j = false ∧
      someBetween (agentEnabled .snk) s i (j + 1) = true →
    someBetween (agentMoves .snk) s i j = true

/-- P2 over the first `n` steps from `s`: no STR.WAITRR step is taken on a stale ready (rule R281). -/
abbrev ReadySeenInTime (s : State) (n : Nat) : Prop :=
  ∀ k < n, waitrrMoves (stateAt s k) = true → ReadyNotStale (stateAt s k)

/-- The bytes received after `n` steps from `s` are, in order and from the first on, the `TXBINS` that the STR.SEND of their
frame found: the frame sent after as many others as were received and re-armed (rules R158, R285). -/
abbrev ReceivedIsSent (s : State) (n : Nat) : Prop :=
  (stateAt s n).rxcnt ≠ 0 → ∃ i < n, sendMoves (stateAt s i) = true ∧ stepsWith sendMoves s i = stepsWith rearmMoves s n ∧
    ∀ k < (stateAt s n).rxcnt.toNat, (stateAt s n).rxbins.read k = (stateAt s i).txbins.read k

/-- No deadlock (rule R281): when neither the Streamer nor the link nor the sink has an enabled step, the sink is idle and
without a tick, with the Streamer idle or waiting for it; or the Receiver waits for the first byte of a chunk and the
Streamer for a STR.SEND (rule R284). -/
abbrev OnlyIdleWaits (s : State) : Prop :=
  agentEnabled .str s = false → agentEnabled .lnk s = false → agentEnabled .snk s = false →
    (s.snkPh = .idle ∧ s.tickPend = false ∧ (s.strPh = .idle ∨ s.strPh = .waitrr)) ∨
    (s.snkPh = .rrd0 ∧ s.strPh = .idle)

/-- P3 over the first `n` steps from `s` (rule R284): an accepted SNK.RSTCNT is issued with `DR = 0`, or `DR` has been 0 at
some point since `FULL` rose, as it has when the sink host has seen it so in SNK.STAT. -/
abbrev RearmsAfterDrain (s : State) (n : Nat) : Prop :=
  ∀ j < n, rearmMoves (stateAt s j) = true →
    ∃ i < j + 1, (stateAt s i).dr = false ∧ ∀ k < j + 1, i ≤ k → (stateAt s k).rxcnt = 32

/-- The next step is EVT.LINE. -/
def lineMoves (s : State) : Bool := decide (s.turns.head? = some (.word 0xE1000000))

/-- The next step is RAS.SYNCON. -/
def synconMoves (s : State) : Bool := agentMoves .snk s && s.snkPh == .idle

/-- The premise on ticks over the first `n` steps from `s` (rule R289): every EVT.LINE is presented with `SNK_PH = 0` and
`TICK_PEND = 0`. -/
abbrev TicksWhenIdle (s : State) (n : Nat) : Prop :=
  ∀ k < n, lineMoves (stateAt s k) = true → (stateAt s k).snkPh = .idle ∧ (stateAt s k).tickPend = false

/-- The Receiver waits with `RR = 1` for the first byte of a frame that no STR.SEND has begun: no video meanwhile (rules
R283, R284). -/
abbrev WaitsForNextFrame (s : State) : Prop :=
  s.snkPh = .rrd0 ∧ s.rr = true ∧ s.rxq = [] ∧ s.strPh = .idle

/-- With a receive queue of depth `d` and the other parameters at their defaults, an overrun is reachable from reset within
one frame: by a schedule that satisfies P1 if `p1` is true, and P2 if `p2` is true (rules R281, R282). -/
def OverrunReachable (d : Nat) (p1 p2 : Bool) : Prop :=
  ∃ (ts : List Turn) (n : Nat) (s : State), s = State.resetRun { Config.default with rxDepth := d } ts ∧
    (∀ t ∈ ts, singleTurn t = true) ∧ stepsWith sendMoves s n = 1 ∧ (p1 = true → ReceiverKeepsUp s n) ∧
    (p2 = true → ReadySeenInTime s n) ∧ (stateAt s n).ovr = true

/-! ## Stalls (rules R189, R244, R283) -/

/-- Outcome (a) of rule R283: the Receiver holds in RCV.RDN for a byte that is lost, the Streamer holds in STR.WAITRR,
and the link is empty. -/
abbrev BothStalled (s : State) : Prop :=
  s.snkPh = .rrdn ∧ s.rxq = [] ∧ s.thr = none ∧ s.tsr = none ∧ s.strPh = .waitrr ∧ s.rr = false

/-! ## Exact arithmetic (rule R116) -/

/-- A product that fits: the scaled product is the signed reading of its wrapped pattern. -/
abbrev MulExact (c : Config) (a b : Word) : Prop := sint16 (mulfix c a b) = sint16 a * sint16 b / 256

/-- A sum that fits. -/
abbrev AddExact (a b : Word) : Prop := sint16 (add16 a b) = sint16 a + sint16 b

/-- A difference that fits. -/
abbrev SubExact (a b : Word) : Prop := sint16 (sub16 a b) = sint16 a - sint16 b

/-- Every operation of a butterfly gives its exact result (rule R116). -/
abbrev ButterflyExact (c : Config) (w x y : Cplx) : Prop :=
  MulExact c w.re y.re ∧ MulExact c w.im y.im ∧ MulExact c w.re y.im ∧ MulExact c w.im y.re ∧
  SubExact (mulfix c w.re y.re) (mulfix c w.im y.im) ∧ AddExact (mulfix c w.re y.im) (mulfix c w.im y.re) ∧
  AddExact (chalf x).re (cmul c w y).re ∧ AddExact (chalf x).im (cmul c w y).im ∧
  SubExact (chalf x).re (cmul c w y).re ∧ SubExact (chalf x).im (cmul c w y).im

end Sys2Proof.Machine
end

