-- ==== Sys2Proof/Certificates/Slice0/Obligations.lean ====
section
/-! DEFINITION. The statements for the provers. -/

open Sys2Proof Sys2Proof.Machine

/-! ## Encoding and decoding -/

/-- Every operation, with every operand its type admits, is decoded from its own code (rules R84 to R97). -/
def Obligations.DecodeInvertsEncode : Prop :=
  ∀ i : Instr, decode (encode i) = .ok i

/-- Every code the decoder accepts is the code of the operation it gives, so no bit of a word is dropped; the one
operation with two codes is LNK.XFER, selected by a full `TSR` whatever `THR` holds (rules R97, R99, R101). -/
def Obligations.AcceptedCodesEncodeBack : Prop :=
  ∀ (c : Code) (i : Instr), decode c = .ok i → encode i = c ∨ (i = .lnkXfer ∧ c = .phase .link 3)

/-- A port word decodes exactly when it matches a row of the opcode table and its agent field, in the two words that have
one, is in 1..4 (rules R88 to R94, R99, R100). -/
def Obligations.WordsDecodeExactlyWhenInTable : Prop :=
  ∀ w : PortWord,
    (∃ i, decode (.word w) = .ok i) ↔ ((∃ row ∈ wordRows, w &&& row.1 = row.2) ∧ agentInRange w = true)

/-- The word of every command and event is the number its table gives for it (rules R88 to R94). -/
def Obligations.EncodedWordsAreTheTables : Prop :=
  encode .fftStat = .word 0x10000000 ∧
  (∀ (idx : BitVec 7) (data : Word),
    encode (.fftLds idx data) = .word (BitVec.ofNat 32 (0x11000000 + idx.toNat * 0x10000 + data.toNat))) ∧
  encode .fftStart = .word 0x12000000 ∧
  (∀ idx : BitVec 7, encode (.fftRdr idx) = .word (BitVec.ofNat 32 (0x13000000 + idx.toNat * 0x10000))) ∧
  (∀ idx : BitVec 7, encode (.fftRdi idx) = .word (BitVec.ofNat 32 (0x14000000 + idx.toNat * 0x10000))) ∧
  (∀ idx : BitVec 7, encode (.fftRds idx) = .word (BitVec.ofNat 32 (0x15000000 + idx.toNat * 0x10000))) ∧
  encode .strStat = .word 0x20000000 ∧
  (∀ (idx : BitVec 5) (byte : Byte),
    encode (.strWrb idx byte) = .word (BitVec.ofNat 32 (0x21000000 + idx.toNat * 0x10000 + byte.toNat))) ∧
  encode .strSend = .word 0x22000000 ∧
  (∀ b : Bool, encode (.strSetfr b) = .word (BitVec.ofNat 32 (0x23000000 + b.toNat))) ∧
  (∀ idx : BitVec 5, encode (.strRdb idx) = .word (BitVec.ofNat 32 (0x24000000 + idx.toNat * 0x10000))) ∧
  encode .snkStat = .word 0x30000000 ∧
  (∀ idx : BitVec 5, encode (.snkRdb idx) = .word (BitVec.ofNat 32 (0x31000000 + idx.toNat * 0x10000))) ∧
  encode .snkRstcnt = .word 0x32000000 ∧
  encode .snkRdline = .word 0x33000000 ∧
  (∀ (addr : BitVec 16) (byte : Byte),
    encode (.snkWrfb addr byte) = .word (BitVec.ofNat 32 (0x34000000 + addr.toNat * 0x100 + byte.toNat))) ∧
  (∀ addr : BitVec 16, encode (.snkRdfb addr) = .word (BitVec.ofNat 32 (0x35000000 + addr.toNat * 0x100))) ∧
  encode .evtLine = .word 0xE1000000 ∧
  (∀ a : Agent, encode (.evtStep a) = .word (BitVec.ofNat 32 (0xE2000000 + (agentNumber a).toNat * 0x10000))) ∧
  (∀ a : Agent, encode (.evtRun a) = .word (BitVec.ofNat 32 (0xE3000000 + (agentNumber a).toNat * 0x10000))) ∧
  encode .evtSettle = .word 0xE4000000

/-- Words that the spec writes out (rules R103, R120, R142, R144, R199, R200) and phase values of rules R95 to R97 decode
to the operations they stand for. -/
def Obligations.SpecWordsDecode : Prop :=
  decode (.word 0x1105FED4) = .ok (.fftLds 5 0xFED4) ∧
  decode (.word 0x211F007F) = .ok (.strWrb 31 0x7F) ∧
  decode (.word 0x23000001) = .ok (.strSetfr true) ∧
  decode (.word 0x340F9FFF) = .ok (.snkWrfb 3999 0xFF) ∧
  decode (.word 0x35002700) = .ok (.snkRdfb 39) ∧
  decode (.word 0xE3030000) = .ok (.evtRun .snk) ∧
  decode (.word 0xE2030000) = .ok (.evtStep .snk) ∧
  decode (.phase .fftPh 2) = .ok .fftBfly ∧
  decode (.phase .strPh 3) = .ok .strFin ∧
  decode (.phase .snkPh 7) = .ok .rcvRdn ∧
  decode (.phase .link 3) = .ok .lnkXfer

/-- The value of a phase register selects the sequencer's micro-operation (rules R95 to R97): the registers' codes, the
operation each selects, and that the agent's step is that operation, or no step where none is selected or enabled. -/
def Obligations.PhaseCodesSelectTheMicroOperation : Prop :=
  ([FftPhase.idle, .reorder, .bfly].map fftPhaseCode = [0, 1, 2]) ∧
  ([StrPhase.idle, .waitrr, .push, .waittxc].map strPhaseCode = [0, 1, 2, 3]) ∧
  ([SnkPhase.idle, .count, .syncoff, .emit, .rpoll, .rrd0, .rrdyoff, .rrdn].map snkPhaseCode =
    [0, 1, 2, 3, 4, 5, 6, 7]) ∧
  (∀ s : State, decode (agentCode .fft s) = match s.fftPh with
    | .idle => .error .noMicroOp
    | .reorder => .ok .fftSwap
    | .bfly => .ok .fftBfly) ∧
  (∀ s : State, decode (agentCode .str s) = match s.strPh with
    | .idle => .error .noMicroOp
    | .waitrr => .ok .strWaitrr
    | .push => .ok .strPush
    | .waittxc => .ok .strFin) ∧
  (∀ s : State, decode (agentCode .snk s) = match s.snkPh with
    | .idle => .ok .rasSyncon
    | .count => .ok .rasCount
    | .syncoff => .ok .rasSyncoff
    | .emit => .ok .rasEmit
    | .rpoll => .ok .rcvPoll
    | .rrd0 => .ok .rcvRd0
    | .rrdyoff => .ok .rcvRdyoff
    | .rrdn => .ok .rcvRdn) ∧
  (∀ s : State, decode (agentCode .lnk s) =
    if s.tsr.isSome then .ok .lnkXfer else if s.thr.isSome then .ok .lnkLoad else .error .noMicroOp) ∧
  (∀ (a : Agent) (s : State), stepAgent a s = match decode (agentCode a s) with
    | .ok i => exec i s
    | .error _ => .next s) ∧
  (∀ s : State, s.snkPh = .idle → s.tickPend = false → agentEnabled .snk s = false) ∧
  (∀ (a : Agent) (s : State), agentEnabled a s = false → stepAgent a s = .next s)

/-! ## The step and the port -/

/-- A step takes the first turn of the schedule and executes what it names (rules R75, R99, R100). That a rejected code
is a next state, that an agent with no selected operation leaves the state as it is, and that an empty schedule idles, are
the model's choices (notes/assumptions/1.md, 3.md, 4.md). -/
def Obligations.StepTakesTheFirstTurn : Prop :=
  (∀ s : State, s.turns = [] → step s = .next s) ∧
  (∀ (s : State) (w : PortWord) (ts : List Turn) (i : Instr), s.turns = .word w :: ts → decode (.word w) = .ok i →
    step s = exec i { s with turns := ts }) ∧
  (∀ (s : State) (a : Agent) (ts : List Turn) (i : Instr), s.turns = .agent a :: ts → decode (agentCode a s) = .ok i →
    step s = exec i { s with turns := ts }) ∧
  (∀ (s : State) (w : PortWord) (ts : List Turn) (why : Reject), s.turns = .word w :: ts →
    decode (.word w) = .error why →
    step s = .next { s with turns := ts, resp := some (responseWord .nakArg 0) }) ∧
  (∀ (s : State) (a : Agent) (ts : List Turn) (why : Reject), s.turns = .agent a :: ts →
    decode (agentCode a s) = .error why → step s = .next { s with turns := ts })

/-- Every port word is answered by one response word, with the code of the first cause that applies, in the order NAK_ARG,
NAK_BUSY, NAK_STATE, ACK; with a NAK the data is 0 and nothing else changes (rules R98 to R100, R241, R242). NAK_ARG is
answered exactly to the words that match no row of the table, name no agent in 1..4 or address no framebuffer byte. -/
def Obligations.PortWordsAreAnswered : Prop :=
  (∀ (c : RespCode) (d : Word), (responseWord c d).toNat =
    0x10000 * (match c with | .ack => 0 | .nakBusy => 1 | .nakArg => 2 | .nakState => 3) + d.toNat) ∧
  (∀ (s : State) (w : PortWord) (ts : List Turn), MachineOk s → s.turns = .word w :: ts →
    ∃ t d, step s = .next t ∧ t.turns = ts ∧ t.resp = some (responseWord (expectedCode w s) d) ∧
      (expectedCode w s ≠ .ack → d = 0 ∧ t = { s with turns := ts, resp := t.resp })) ∧
  (∀ (s : State) (w : PortWord), expectedCode w s = .nakArg ↔
    ¬((∃ row ∈ wordRows, w &&& row.1 = row.2) ∧ agentInRange w = true) ∨
      ((w &&& 0xFF000000 = 0x34000000 ∨ w &&& 0xFF0000FF = 0x35000000) ∧ s.cfg.fbSize ≤ (addrField w).toNat))

/-! ## FFT commands

A command's statement says which words the decoder takes for it; the words it rejects are answered NAK_ARG with nothing
changed (`Obligations.StepTakesTheFirstTurn`, `Obligations.PortWordsAreAnswered`). -/

/-- The three status words, bit by bit, and their readings after reset (rules R29, R38, R54, R120, R141, R195). FFT.STAT
and STR.STAT are accepted while busy; SNK.STAT is not. -/
def Obligations.StatusWords : Prop :=
  (∀ w : PortWord, unitField w = 0x1 → opField w = 0 →
    decode (.word w) = if w = 0x10000000 then .ok .fftStat else .error .fieldNotZero) ∧
  (∀ w : PortWord, unitField w = 0x2 → opField w = 0 →
    decode (.word w) = if w = 0x20000000 then .ok .strStat else .error .fieldNotZero) ∧
  (∀ w : PortWord, unitField w = 0x3 → opField w = 0 →
    decode (.word w) = if w = 0x30000000 then .ok .snkStat else .error .fieldNotZero) ∧
  (∀ s : State, ∃ w : Word, exec .fftStat s = .next { s with resp := some (responseWord .ack w) } ∧
    w.toNat = (decide (s.fftPh ≠ .idle)).toNat + 2 * s.fftDone.toNat) ∧
  (∀ s : State, ∃ w : Word, exec .strStat s = .next { s with resp := some (responseWord .ack w) } ∧
    w.toNat = (decide (s.strPh ≠ .idle)).toNat + 2 * s.dr.toNat + 4 * s.rr.toNat + 8 * (decide (s.thr = none)).toNat +
      16 * (decide (s.thr = none ∧ s.tsr = none)).toNat + 32 * s.frq.toNat + 256 * s.regCh.toNat +
      4096 * s.regBy.toNat) ∧
  (∀ s : State, s.snkPh = .idle →
    ∃ w : Word, exec .snkStat s = .next { s with resp := some (responseWord .ack w) } ∧
      w.toNat = s.rxcnt.toNat + 64 * (decide (s.rxcnt.toNat = 32)).toNat + 128 * s.dr.toNat + 256 * s.frq.toNat +
        512 * s.rr.toNat + 1024 * s.pol.toNat + 2048 * s.ovr.toNat + 4096 * s.miss.toNat + 8192 * s.tickPend.toNat) ∧
  (∀ s : State, s.snkPh ≠ .idle → exec .snkStat s = .next { s with resp := some (responseWord .nakBusy 0) }) ∧
  exec .fftStat State.reset = .next { State.reset with resp := some 0x00000000 } ∧
  exec .strStat State.reset = .next { State.reset with resp := some 0x00000018 } ∧
  exec .snkStat State.reset = .next { State.reset with resp := some 0x00000000 }

/-- FFT.LDS writes the sample to one cell of `FR`, clears the same cell of `FI` and `FFT_DONE`, and changes nothing else;
while busy it is refused (rule R121). -/
def Obligations.FftLoadSample : Prop :=
  (∀ w : PortWord, unitField w = 0x1 → opField w = 1 → decode (.word w) =
    if (idxField w).toNat < 128 then .ok (.fftLds ((idxField w).setWidth 7) (dataField w))
    else .error .indexRange) ∧
  (∀ (s : State) (idx : BitVec 7) (data : Word), MemoriesOk s → s.fftPh = .idle →
    ∃ t, exec (.fftLds idx data) s = .next t ∧
      (∀ k, t.fr.read k = if k = idx.toNat then data else s.fr.read k) ∧
      (∀ k, t.fi.read k = if k = idx.toNat then 0 else s.fi.read k) ∧
      t = { s with fr := t.fr, fi := t.fi, fftDone := false, resp := some (responseWord .ack 0) }) ∧
  (∀ (s : State) (idx : BitVec 7) (data : Word), s.fftPh ≠ .idle →
    exec (.fftLds idx data) s = .next { s with resp := some (responseWord .nakBusy 0) })

/-- FFT.START enters phase REORDER with `M = 1`, `S = I = 0` and `FFT_DONE` cleared; while busy it is refused and the
running transform is not disturbed (rule R122). -/
def Obligations.FftStartBeginsReorder : Prop :=
  (∀ w : PortWord, unitField w = 0x1 → opField w = 2 →
    decode (.word w) = if w = 0x12000000 then .ok .fftStart else .error .fieldNotZero) ∧
  (∀ s : State, s.fftPh = .idle → exec .fftStart s = .next
    { s with
      fftPh := .reorder, regM := 1, regS := 0, regI := 0, fftDone := false
      resp := some (responseWord .ack 0) }) ∧
  (∀ s : State, s.fftPh ≠ .idle → exec .fftStart s = .next { s with resp := some (responseWord .nakBusy 0) })

/-- FFT.RDR, FFT.RDI and FFT.RDS answer the cell and change nothing; the first two are refused while busy, the third is
not (rules R123 to R125). -/
def Obligations.FftReads : Prop :=
  (∀ w : PortWord, unitField w = 0x1 → opField w = 3 → decode (.word w) =
    if (idxField w).toNat < 128 then
      if dataField w = 0 then .ok (.fftRdr ((idxField w).setWidth 7)) else .error .fieldNotZero
    else .error .indexRange) ∧
  (∀ w : PortWord, unitField w = 0x1 → opField w = 4 → decode (.word w) =
    if (idxField w).toNat < 128 then
      if dataField w = 0 then .ok (.fftRdi ((idxField w).setWidth 7)) else .error .fieldNotZero
    else .error .indexRange) ∧
  (∀ w : PortWord, unitField w = 0x1 → opField w = 5 → decode (.word w) =
    if (idxField w).toNat < 128 then
      if dataField w = 0 then .ok (.fftRds ((idxField w).setWidth 7)) else .error .fieldNotZero
    else .error .indexRange) ∧
  (∀ (s : State) (idx : BitVec 7), s.fftPh = .idle →
    exec (.fftRdr idx) s = .next { s with resp := some (responseWord .ack (s.fr.read idx.toNat)) } ∧
    exec (.fftRdi idx) s = .next { s with resp := some (responseWord .ack (s.fi.read idx.toNat)) }) ∧
  (∀ (s : State) (idx : BitVec 7), s.fftPh ≠ .idle →
    exec (.fftRdr idx) s = .next { s with resp := some (responseWord .nakBusy 0) } ∧
    exec (.fftRdi idx) s = .next { s with resp := some (responseWord .nakBusy 0) }) ∧
  (∀ (s : State) (idx : BitVec 7),
    exec (.fftRds idx) s = .next { s with resp := some (responseWord .ack (s.cfg.sin.getD idx.toNat 0)) })

/-! ## Streamer commands -/

/-- STR.WRB writes one byte of `TXBINS` and nothing else, and is refused while a frame is in flight; STR.RDB answers a
byte, zero-extended, at any time (rules R142, R145). -/
def Obligations.StreamerBinsWriteAndRead : Prop :=
  (∀ w : PortWord, unitField w = 0x2 → opField w = 1 → decode (.word w) =
    if (idxField w).toNat < 32 then
      if (dataField w).toNat ≤ 0xFF then .ok (.strWrb ((idxField w).setWidth 5) ((dataField w).setWidth 8))
      else .error .dataRange
    else .error .indexRange) ∧
  (∀ w : PortWord, unitField w = 0x2 → opField w = 4 → decode (.word w) =
    if (idxField w).toNat < 32 then
      if dataField w = 0 then .ok (.strRdb ((idxField w).setWidth 5)) else .error .fieldNotZero
    else .error .indexRange) ∧
  (∀ (s : State) (idx : BitVec 5) (byte : Byte), MemoriesOk s → s.strPh = .idle →
    ∃ t, exec (.strWrb idx byte) s = .next t ∧
      (∀ k, t.txbins.read k = if k = idx.toNat then byte else s.txbins.read k) ∧
      t = { s with txbins := t.txbins, resp := some (responseWord .ack 0) }) ∧
  (∀ (s : State) (idx : BitVec 5) (byte : Byte), s.strPh ≠ .idle →
    exec (.strWrb idx byte) s = .next { s with resp := some (responseWord .nakBusy 0) }) ∧
  (∀ (s : State) (idx : BitVec 5),
    exec (.strRdb idx) s =
      .next { s with resp := some (responseWord .ack (BitVec.ofNat 16 (s.txbins.read idx.toNat).toNat)) })

/-- STR.SEND asserts `DR`, clears `CH` and `BY` and enters WAITRR; it is refused while a frame is in flight
(rule R143). -/
def Obligations.SendStartsAFrame : Prop :=
  (∀ w : PortWord, unitField w = 0x2 → opField w = 2 →
    decode (.word w) = if w = 0x22000000 then .ok .strSend else .error .fieldNotZero) ∧
  (∀ s : State, s.strPh = .idle → exec .strSend s = .next
    { s with dr := true, regCh := 0, regBy := 0, strPh := .waitrr, resp := some (responseWord .ack 0) }) ∧
  (∀ s : State, s.strPh ≠ .idle → exec .strSend s = .next { s with resp := some (responseWord .nakBusy 0) })

/-- STR.SETFR sets `FRQ`, in every phase, and no micro-operation of any unit reads `FRQ` (rules R34, R144). -/
def Obligations.FrequencyRangeOnlyCrossesTheLink : Prop :=
  (∀ w : PortWord, unitField w = 0x2 → opField w = 3 → decode (.word w) =
    if idxField w = 0 then
      if (dataField w).toNat ≤ 1 then .ok (.strSetfr (decide (dataField w = 1))) else .error .dataRange
    else .error .fieldNotZero) ∧
  (∀ (s : State) (b : Bool),
    exec (.strSetfr b) s = .next { s with frq := b, resp := some (responseWord .ack 0) }) ∧
  (∀ (i : Instr) (s t : State) (b : Bool), isMicro i = true → exec i s = .next t →
    exec i { s with frq := b } = .next { t with frq := b })

/-! ## Sink commands -/

/-- SNK.RDB, SNK.RDLINE and SNK.RDFB answer a byte, the scanline counter or a framebuffer byte, zero-extended, and change
nothing; inside an invocation they are refused, and SNK.RDFB outside the framebuffer is refused first (rules R196, R198,
R200). -/
def Obligations.SinkReads : Prop :=
  (∀ w : PortWord, unitField w = 0x3 → opField w = 1 → decode (.word w) =
    if (idxField w).toNat < 32 then
      if dataField w = 0 then .ok (.snkRdb ((idxField w).setWidth 5)) else .error .fieldNotZero
    else .error .indexRange) ∧
  (∀ w : PortWord, unitField w = 0x3 → opField w = 3 →
    decode (.word w) = if w = 0x33000000 then .ok .snkRdline else .error .fieldNotZero) ∧
  (∀ w : PortWord, unitField w = 0x3 → opField w = 5 → decode (.word w) =
    if byteField w = 0 then .ok (.snkRdfb (addrField w)) else .error .fieldNotZero) ∧
  (∀ (s : State) (idx : BitVec 5), s.snkPh = .idle →
    exec (.snkRdb idx) s =
      .next { s with resp := some (responseWord .ack (BitVec.ofNat 16 (s.rxbins.read idx.toNat).toNat)) }) ∧
  (∀ s : State, s.snkPh = .idle →
    exec .snkRdline s = .next { s with resp := some (responseWord .ack (BitVec.ofNat 16 s.line.toNat)) }) ∧
  (∀ (s : State) (addr : BitVec 16), s.snkPh = .idle → addr.toNat < s.cfg.fbSize →
    exec (.snkRdfb addr) s =
      .next { s with resp := some (responseWord .ack (BitVec.ofNat 16 (s.fb.read addr.toNat).toNat)) }) ∧
  (∀ (s : State) (idx : BitVec 5), s.snkPh ≠ .idle →
    exec (.snkRdb idx) s = .next { s with resp := some (responseWord .nakBusy 0) } ∧
    exec .snkRdline s = .next { s with resp := some (responseWord .nakBusy 0) }) ∧
  (∀ (s : State) (addr : BitVec 16), s.snkPh ≠ .idle → addr.toNat < s.cfg.fbSize →
    exec (.snkRdfb addr) s = .next { s with resp := some (responseWord .nakBusy 0) }) ∧
  (∀ (s : State) (addr : BitVec 16), s.cfg.fbSize ≤ addr.toNat →
    exec (.snkRdfb addr) s = .next { s with resp := some (responseWord .nakArg 0) })

/-- SNK.RSTCNT clears `RXCNT` and nothing else when all 32 bins have been counted; otherwise it is refused with NAK_STATE,
and inside an invocation with NAK_BUSY (rule R197). -/
def Obligations.ResetCountReArms : Prop :=
  (∀ w : PortWord, unitField w = 0x3 → opField w = 2 →
    decode (.word w) = if w = 0x32000000 then .ok .snkRstcnt else .error .fieldNotZero) ∧
  (∀ s : State, s.snkPh = .idle → s.rxcnt = 32 →
    exec .snkRstcnt s = .next { s with rxcnt := 0, resp := some (responseWord .ack 0) }) ∧
  (∀ s : State, s.snkPh = .idle → s.rxcnt ≠ 32 →
    exec .snkRstcnt s = .next { s with resp := some (responseWord .nakState 0) }) ∧
  (∀ s : State, s.snkPh ≠ .idle → exec .snkRstcnt s = .next { s with resp := some (responseWord .nakBusy 0) })

/-- SNK.WRFB writes one byte of the framebuffer and nothing else; outside the framebuffer it is refused with NAK_ARG, and
inside an invocation with NAK_BUSY (rule R199). -/
def Obligations.FramebufferWrite : Prop :=
  (∀ w : PortWord, unitField w = 0x3 → opField w = 4 →
    decode (.word w) = .ok (.snkWrfb (addrField w) (byteField w))) ∧
  (∀ (s : State) (addr : BitVec 16) (byte : Byte), MemoriesOk s → s.snkPh = .idle → addr.toNat < s.cfg.fbSize →
    ∃ t, exec (.snkWrfb addr byte) s = .next t ∧
      (∀ k, t.fb.read k = if k = addr.toNat then byte else s.fb.read k) ∧
      t = { s with fb := t.fb, resp := some (responseWord .ack 0) }) ∧
  (∀ (s : State) (addr : BitVec 16) (byte : Byte), s.cfg.fbSize ≤ addr.toNat →
    exec (.snkWrfb addr byte) s = .next { s with resp := some (responseWord .nakArg 0) }) ∧
  (∀ (s : State) (addr : BitVec 16) (byte : Byte), s.snkPh ≠ .idle → addr.toNat < s.cfg.fbSize →
    exec (.snkWrfb addr byte) s = .next { s with resp := some (responseWord .nakBusy 0) })

/-! ## Event words -/

/-- EVT.LINE sets `TICK_PEND`; a tick that arrives while one is pending is lost and sets `MISS` (rules R91, R181). -/
def Obligations.TickSetsPendingOrMiss : Prop :=
  (∀ w : PortWord, unitField w = 0xE → opField w = 1 →
    decode (.word w) = if w = 0xE1000000 then .ok .evtLine else .error .fieldNotZero) ∧
  (∀ s : State, s.tickPend = false →
    exec .evtLine s = .next { s with tickPend := true, resp := some (responseWord .ack 0) }) ∧
  (∀ s : State, s.tickPend = true →
    exec .evtLine s = .next { s with miss := true, resp := some (responseWord .ack 0) })

/-- EVT.STEP gives the agent the one micro-operation selected for it, if enabled, and answers 1; otherwise it answers 0
and changes nothing (rule R92). -/
def Obligations.StepWordTakesOneMicroOperation : Prop :=
  (∀ w : PortWord, unitField w = 0xE → opField w = 2 → decode (.word w) =
    match (idxField w).toNat with
    | 1 => if dataField w = 0 then .ok (.evtStep .fft) else .error .fieldNotZero
    | 2 => if dataField w = 0 then .ok (.evtStep .str) else .error .fieldNotZero
    | 3 => if dataField w = 0 then .ok (.evtStep .snk) else .error .fieldNotZero
    | 4 => if dataField w = 0 then .ok (.evtStep .lnk) else .error .fieldNotZero
    | _ => .error .agentRange) ∧
  (∀ (a : Agent) (s : State), agentEnabled a s = false →
    exec (.evtStep a) s = .next { s with resp := some (responseWord .ack 0) }) ∧
  (∀ (a : Agent) (s : State), MachineOk s → agentEnabled a s = true →
    ∃ i t, decode (agentCode a s) = .ok i ∧ isMicro i = true ∧ exec i s = .next t ∧
      exec (.evtStep a) s = .next { t with resp := some (responseWord .ack 1) })

/-- EVT.RUN gives the agent steps until it has none enabled and answers their number; it always ends (rule R93). -/
def Obligations.RunWordRunsToTheHold : Prop :=
  (∀ w : PortWord, unitField w = 0xE → opField w = 3 → decode (.word w) =
    match (idxField w).toNat with
    | 1 => if dataField w = 0 then .ok (.evtRun .fft) else .error .fieldNotZero
    | 2 => if dataField w = 0 then .ok (.evtRun .str) else .error .fieldNotZero
    | 3 => if dataField w = 0 then .ok (.evtRun .snk) else .error .fieldNotZero
    | 4 => if dataField w = 0 then .ok (.evtRun .lnk) else .error .fieldNotZero
    | _ => .error .agentRange) ∧
  (∀ (a : Agent) (s : State), MachineOk s →
    ∃ n t, TakesSteps a n s t ∧ agentEnabled a t = false ∧ n < 1024 ∧
      exec (.evtRun a) s = .next { t with resp := some (responseWord .ack (BitVec.ofNat 16 n)) })

/-- EVT.SETTLE runs rounds of STR, LNK, SNK and FFT until a whole round takes no step, and answers the number of steps
modulo 65536; it always ends, and then no agent has an enabled step (rule R94). -/
def Obligations.SettleWordRunsToQuiescence : Prop :=
  (∀ w : PortWord, unitField w = 0xE → opField w = 4 →
    decode (.word w) = if w = 0xE4000000 then .ok .evtSettle else .error .fieldNotZero) ∧
  (∀ s : State, MachineOk s →
    ∃ k n t, TakesRounds k n s t ∧ AllHold t ∧
      exec .evtSettle s = .next { t with resp := some (responseWord .ack (BitVec.ofNat 16 n)) })

/-! ## FFT micro-operations -/

/-- FFT.SWAP exchanges `FR[M]` and `FR[rev7(M)]` when `rev7(M) > M`, and advances `M` or enters phase BFLY; from `M = 1`
the phase is 127 steps and leaves `FR'[i] = FR[rev7(i)]` (rule R126). -/
def Obligations.SwapStep : Prop :=
  decode (.phase .fftPh 1) = .ok .fftSwap ∧
  (∀ s : State, MemoriesOk s → s.fftPh = .reorder →
    ∃ t, exec .fftSwap s = .next t ∧
      (∀ k, t.fr.read k =
        if s.regM.toNat < (rev7 s.regM).toNat ∧ k = s.regM.toNat then s.fr.read (rev7 s.regM).toNat
        else if s.regM.toNat < (rev7 s.regM).toNat ∧ k = (rev7 s.regM).toNat then s.fr.read s.regM.toNat
        else s.fr.read k) ∧
      (s.regM = 127 → t = { s with fr := t.fr, fftPh := .bfly, regS := 0, regM := 0, regI := 0 }) ∧
      (s.regM ≠ 127 → t = { s with fr := t.fr, regM := s.regM + 1 })) ∧
  (∀ s : State, s.fftPh ≠ .reorder → exec .fftSwap s = .next s) ∧
  (∀ s : State, MemoriesOk s → s.fftPh = .reorder → s.regM = 1 →
    ∃ t, TakesSteps .fft 127 s t ∧ (∀ i : BitVec 7, t.fr.read i.toNat = s.fr.read (rev7 i).toNat) ∧
      t = { s with fr := t.fr, fftPh := .bfly, regS := 0, regM := 0, regI := 0 })

/-- FFT.BFLY computes one butterfly in 16-bit arithmetic, with the parameters' `SIN` and `mulfix` (rule R13), on the cells
`I` and `I + L` of `FR` and `FI`, changes no other cell, and advances `I`, then `M`, then `S`, or completes the transform
(rules R118, R127). -/
def Obligations.ButterflyStep : Prop :=
  decode (.phase .fftPh 2) = .ok .fftBfly ∧
  (∀ s : State, s.fftPh ≠ .bfly → exec .fftBfly s = .next s) ∧
  (∀ s : State, MachineOk s → s.fftPh = .bfly →
    ∀ (S M I L j a : Nat) (wr wi tr ti qr qi : Word),
      S = s.regS.toNat → M = s.regM.toNat → I = s.regI.toNat → L = 2 ^ S → j = I + L → a = M * 2 ^ (6 - S) →
      wr = s.cfg.sin.getD (a + 32) 0 → wi = neg16 (s.cfg.sin.getD a 0) →
      tr = sub16 (mulfix s.cfg wr (s.fr.read j)) (mulfix s.cfg wi (s.fi.read j)) →
      ti = add16 (mulfix s.cfg wr (s.fi.read j)) (mulfix s.cfg wi (s.fr.read j)) →
      qr = asr1 (s.fr.read I) → qi = asr1 (s.fi.read I) →
      S ≤ 6 ∧ M < L ∧ j ≤ 127 ∧ a ≤ 63 ∧
      ∃ t, exec .fftBfly s = .next t ∧
        (∀ k, t.fr.read k = if k = j then sub16 qr tr else if k = I then add16 qr tr else s.fr.read k) ∧
        (∀ k, t.fi.read k = if k = j then sub16 qi ti else if k = I then add16 qi ti else s.fi.read k) ∧
        t = { s with
              fr := t.fr, fi := t.fi, fftPh := t.fftPh, fftDone := t.fftDone
              regS := t.regS, regM := t.regM, regI := t.regI } ∧
        (t.fftPh, t.fftDone, t.regS.toNat, t.regM.toNat, t.regI.toNat) =
          if I + 2 * L < 128 then (.bfly, false, S, M, I + 2 * L)
          else if M + 1 < L then (.bfly, false, S, M + 1, M + 1)
          else if S + 1 < 7 then (.bfly, false, S + 1, 0, 0)
          else (.idle, true, 0, 0, 0))

/-! ## Streamer and link micro-operations -/

/-- STR.WAITRR enters PUSH when `RR = 1`, and holds otherwise (rule R147). STR.PUSH puts `TXBINS[4*CH + BY]` into an empty
`THR` and counts the byte; the fourth byte of a chunk goes back to WAITRR, the 32nd of the frame to WAITTXC; while `THR`
holds a byte it holds (rule R148). STR.FIN deasserts `DR` and returns to IDLE when `THR` and `TSR` are empty, and holds
otherwise (rule R149). -/
def Obligations.StreamerSteps : Prop :=
  decode (.phase .strPh 1) = .ok .strWaitrr ∧
  (∀ s : State, s.strPh = .waitrr → s.rr = true → exec .strWaitrr s = .next { s with strPh := .push }) ∧
  (∀ s : State, ¬(s.strPh = .waitrr ∧ s.rr = true) → exec .strWaitrr s = .next s) ∧
  decode (.phase .strPh 2) = .ok .strPush ∧
  (∀ s : State, s.regCh.toNat < 8 → s.strPh = .push → s.thr = none → s.regBy ≠ 3 →
    exec .strPush s = .next
      { s with thr := some (s.txbins.read (4 * s.regCh.toNat + s.regBy.toNat)), regBy := s.regBy + 1 }) ∧
  (∀ s : State, s.regCh.toNat < 7 → s.strPh = .push → s.thr = none → s.regBy = 3 →
    exec .strPush s = .next
      { s with
        thr := some (s.txbins.read (4 * s.regCh.toNat + 3)), regBy := 0, regCh := s.regCh + 1
        strPh := .waitrr }) ∧
  (∀ s : State, s.regCh = 7 → s.strPh = .push → s.thr = none → s.regBy = 3 →
    exec .strPush s = .next
      { s with thr := some (s.txbins.read 31), regBy := 0, regCh := 8, strPh := .waittxc }) ∧
  (∀ s : State, ¬(s.strPh = .push ∧ s.thr = none) → exec .strPush s = .next s) ∧
  decode (.phase .strPh 3) = .ok .strFin ∧
  (∀ s : State, s.strPh = .waittxc → s.thr = none → s.tsr = none →
    exec .strFin s = .next { s with dr := false, strPh := .idle }) ∧
  (∀ s : State, ¬(s.strPh = .waittxc ∧ s.thr = none ∧ s.tsr = none) → exec .strFin s = .next s)

/-- LNK.LOAD moves the byte of `THR` into an empty `TSR`, and does nothing otherwise (rule R150). LNK.XFER appends the byte
of `TSR` to `RXQ`, or drops it and sets `OVR` when `RXQ` holds `RX_DEPTH` bytes; with `TSR` empty it does nothing (rule
R151). -/
def Obligations.LinkSteps : Prop :=
  (∀ (s : State) (b : Byte), s.thr = some b → s.tsr = none →
    exec .lnkLoad s = .next { s with tsr := some b, thr := none }) ∧
  (∀ s : State, ¬(s.thr ≠ none ∧ s.tsr = none) → exec .lnkLoad s = .next s) ∧
  (∀ (s : State) (b : Byte), s.tsr = some b → s.rxq.length < s.cfg.rxDepth →
    exec .lnkXfer s = .next { s with rxq := s.rxq ++ [b], tsr := none }) ∧
  (∀ (s : State) (b : Byte), s.tsr = some b → s.cfg.rxDepth ≤ s.rxq.length →
    exec .lnkXfer s = .next { s with ovr := true, tsr := none }) ∧
  (∀ s : State, s.tsr = none → exec .lnkXfer s = .next s)

/-! ## Receiver micro-operations -/

/-- RCV.POLL accepts a chunk when `DR = 1` and `RXCNT < 32`, raising `RR`; otherwise it ends the invocation (rule R154).
RCV.RDYOFF deasserts `RR` and goes to RRDN (rule R156). -/
def Obligations.PollAndReadyOffSteps : Prop :=
  decode (.phase .snkPh 4) = .ok .rcvPoll ∧
  (∀ s : State, s.snkPh = .rpoll → s.dr = true → s.rxcnt.toNat < 32 →
    exec .rcvPoll s = .next { s with rr := true, rb := 0, snkPh := .rrd0 }) ∧
  (∀ s : State, s.snkPh = .rpoll → ¬(s.dr = true ∧ s.rxcnt.toNat < 32) →
    exec .rcvPoll s = .next { s with snkPh := .idle }) ∧
  (∀ s : State, s.snkPh ≠ .rpoll → exec .rcvPoll s = .next s) ∧
  decode (.phase .snkPh 6) = .ok .rcvRdyoff ∧
  (∀ s : State, s.snkPh = .rrdyoff → exec .rcvRdyoff s = .next { s with rr := false, snkPh := .rrdn }) ∧
  (∀ s : State, s.snkPh ≠ .rrdyoff → exec .rcvRdyoff s = .next s)

/-- RCV.RD0 moves the head of `RXQ` to `RXBINS[RXCNT]`, counts it, sets `RB` to 1 and goes to RRDYOFF; with `RXQ` empty it
holds (rule R155). RCV.RDN moves the head of `RXQ` to `RXBINS[RXCNT]` and counts it; the fourth byte of the chunk clears
`RB` and ends the invocation; with `RXQ` empty it holds (rule R157). -/
def Obligations.ReadByteSteps : Prop :=
  decode (.phase .snkPh 5) = .ok .rcvRd0 ∧
  (∀ (s : State) (b : Byte) (rest : List Byte), MemoriesOk s → s.snkPh = .rrd0 → s.rxq = b :: rest →
    s.rxcnt.toNat < 32 →
    ∃ t, exec .rcvRd0 s = .next t ∧
      (∀ k, t.rxbins.read k = if k = s.rxcnt.toNat then b else s.rxbins.read k) ∧
      t = { s with rxq := rest, rxbins := t.rxbins, rxcnt := s.rxcnt + 1, rb := 1, snkPh := .rrdyoff }) ∧
  (∀ s : State, ¬(s.snkPh = .rrd0 ∧ s.rxq ≠ []) → exec .rcvRd0 s = .next s) ∧
  decode (.phase .snkPh 7) = .ok .rcvRdn ∧
  (∀ (s : State) (b : Byte) (rest : List Byte), MemoriesOk s → s.snkPh = .rrdn → s.rxq = b :: rest →
    s.rxcnt.toNat < 32 →
    ∃ t, exec .rcvRdn s = .next t ∧
      (∀ k, t.rxbins.read k = if k = s.rxcnt.toNat then b else s.rxbins.read k) ∧
      (s.rb.toNat + 1 = 4 → t = { s with rxq := rest, rxbins := t.rxbins, rxcnt := s.rxcnt + 1, rb := 0, snkPh := .idle }) ∧
      (s.rb.toNat + 1 ≠ 4 → t = { s with rxq := rest, rxbins := t.rxbins, rxcnt := s.rxcnt + 1, rb := s.rb + 1 })) ∧
  (∀ s : State, ¬(s.snkPh = .rrdn ∧ s.rxq ≠ []) → exec .rcvRdn s = .next s)

/-! ## Raster micro-operations -/

/-- RAS.SYNCON enters the invocation: it clears `TICK_PEND`, drives `SYNC` to the level of the polarity and goes to COUNT;
without a pending tick it holds (rule R182). -/
def Obligations.SyncOnStep : Prop :=
  decode (.phase .snkPh 0) = .ok .rasSyncon ∧
  (∀ s : State, s.snkPh = .idle → s.tickPend = true → exec .rasSyncon s = .next
    { s with tickPend := false, sync := s.pol, out := s.out ++ [.sync s.pol], snkPh := .count }) ∧
  (∀ s : State, ¬(s.snkPh = .idle ∧ s.tickPend = true) → exec .rasSyncon s = .next s)

/-- RAS.COUNT increments `LINE`, enters or leaves the vertical-sync region at the two thresholds, and wraps at `WRAP_AT`,
all by the incremented value (rule R183). -/
def Obligations.CountStep : Prop :=
  decode (.phase .snkPh 1) = .ok .rasCount ∧
  (∀ s : State, s.cfg.valid = true → s.line.toNat < s.cfg.wrapAt → s.snkPh = .count →
    ∃ t, exec .rasCount s = .next t ∧
      t.line.toNat = (if s.line.toNat + 1 = s.cfg.wrapAt then s.cfg.lineFirst else s.line.toNat + 1) ∧
      t.pol = (if s.line.toNat + 1 = s.cfg.vsStart then true
        else if s.line.toNat + 1 = s.cfg.vsEnd then false else s.pol) ∧
      t = { s with line := t.line, pol := t.pol, snkPh := .syncoff }) ∧
  (∀ s : State, s.snkPh ≠ .count → exec .rasCount s = .next s)

/-- RAS.SYNCOFF drives `SYNC` to the level opposite to the polarity and goes to EMIT on a visible line, to IDLE on a
vertical-sync line when `RX_IN_VSYNC` is false, and to RPOLL otherwise (rule R184). -/
def Obligations.SyncOffStep : Prop :=
  decode (.phase .snkPh 2) = .ok .rasSyncoff ∧
  (∀ s : State, s.snkPh = .syncoff → s.cfg.visTop ≤ s.line.toNat → s.line.toNat < s.cfg.visBot →
    exec .rasSyncoff s = .next
      { s with sync := !s.pol, out := s.out ++ [.sync (!s.pol)], col := 0, snkPh := .emit }) ∧
  (∀ s : State, s.snkPh = .syncoff → ¬(s.cfg.visTop ≤ s.line.toNat ∧ s.line.toNat < s.cfg.visBot) → s.pol = true →
    s.cfg.rxInVsync = false →
    exec .rasSyncoff s = .next { s with sync := !s.pol, out := s.out ++ [.sync (!s.pol)], snkPh := .idle }) ∧
  (∀ s : State, s.snkPh = .syncoff → ¬(s.cfg.visTop ≤ s.line.toNat ∧ s.line.toNat < s.cfg.visBot) →
    ¬(s.pol = true ∧ s.cfg.rxInVsync = false) →
    exec .rasSyncoff s = .next { s with sync := !s.pol, out := s.out ++ [.sync (!s.pol)], snkPh := .rpoll }) ∧
  (∀ s : State, s.snkPh ≠ .syncoff → exec .rasSyncoff s = .next s)

/-- RAS.EMIT shifts out `FB[(LINE - VIS_TOP)*BPR + COL]`, a byte of the framebuffer; the last byte of the row clears `COL`
and ends the invocation (rules R65, R185). -/
def Obligations.EmitStep : Prop :=
  decode (.phase .snkPh 3) = .ok .rasEmit ∧
  (∀ s : State, MachineOk s → s.snkPh = .emit →
    s.cfg.visTop ≤ s.line.toNat ∧
    (s.line.toNat - s.cfg.visTop) * s.cfg.bpr + s.col.toNat < s.cfg.fbSize ∧
    (s.col.toNat + 1 = s.cfg.bpr → exec .rasEmit s = .next
      { s with
        out := s.out ++ [.pix (s.fb.read ((s.line.toNat - s.cfg.visTop) * s.cfg.bpr + s.col.toNat))]
        col := 0, snkPh := .idle }) ∧
    (s.col.toNat + 1 ≠ s.cfg.bpr → exec .rasEmit s = .next
      { s with
        out := s.out ++ [.pix (s.fb.read ((s.line.toNat - s.cfg.visTop) * s.cfg.bpr + s.col.toNat))]
        col := s.col + 1 })) ∧
  (∀ s : State, s.snkPh ≠ .emit → exec .rasEmit s = .next s)

/-! ## Arithmetic -/

/-- The default `mulfix`, that of every parameter set which names no other value, is bits 23:8 of the 32-bit
two's-complement product; it is commutative, 1.0 is its identity, and it takes the corner values rule R111 lists. How a
parameter set holds another `mulfix` is the model's choice (notes/assumptions/7.md), and so are the last three clauses: a
value named for a pair stands in its place there, and only there, and the default set names none. -/
def Obligations.MulfixIsBits23To8 : Prop :=
  (∀ c : Config, c.mulPoints = [] →
    (∀ a b : Word, mulfix c a b = (a.signExtend 32 * b.signExtend 32).extractLsb' 8 16) ∧
    (∀ a b : Word, -2 ^ 30 + 2 ^ 15 ≤ sint16 a * sint16 b ∧ sint16 a * sint16 b ≤ 2 ^ 30 ∧
      mulfix c a b = wrap16 (⌊(sint16 a * sint16 b : ℚ) / 256⌋)) ∧
    (∀ a b : Word, mulfix c a b = mulfix c b a) ∧
    (∀ x : Word, mulfix c 0x0100 x = x ∧ mulfix c 0 x = 0 ∧ mulfix c 0x0080 x = wrap16 (⌊(sint16 x : ℚ) / 2⌋)) ∧
    mulfix c 0x0080 0x0003 = 0x0001 ∧ mulfix c 0x0080 0xFFFD = 0xFFFE ∧ mulfix c 0xFF80 0x0003 = 0xFFFE ∧
    mulfix c 0xFF80 0xFFFD = 0x0001 ∧ mulfix c 0x0001 0x0001 = 0x0000 ∧ mulfix c 0xFFFF 0x0001 = 0xFFFF ∧
    mulfix c 0xFFFF 0xFFFF = 0x0000 ∧ mulfix c 0x7FFF 0x7FFF = 0xFF00 ∧ mulfix c 0x8000 0x8000 = 0x0000 ∧
    mulfix c 0x8000 0x0100 = 0x8000 ∧ mulfix c 0x8000 0xFF00 = 0x8000) ∧
  (∀ (c : Config) (a b v : Word), mulfix { c with mulPoints := ((a, b), v) :: c.mulPoints } a b = v) ∧
  (∀ (c : Config) (a b v x y : Word), (x, y) ≠ (a, b) →
    mulfix { c with mulPoints := ((a, b), v) :: c.mulPoints } x y = mulfix c x y) ∧
  Config.default.mulPoints = []

/-- `add16`, `sub16`, `neg16` are the wrapping 16-bit operations and `asr1` the arithmetic shift right by one, which floors
and cannot overflow; `neg16` never meets its corner on the sine table (rules R112 to R114). -/
def Obligations.WrappingArithmetic : Prop :=
  (∀ a b : Word, add16 a b = a + b ∧ add16 a b = wrap16 (sint16 a + sint16 b)) ∧
  (∀ a b : Word, sub16 a b = a - b ∧ sub16 a b = wrap16 (sint16 a - sint16 b)) ∧
  (∀ a : Word, neg16 a = -a ∧ neg16 a = wrap16 (-sint16 a)) ∧
  (∀ a : Word, asr1 a = a.sshiftRight 1 ∧ sint16 (asr1 a) = ⌊(sint16 a : ℚ) / 2⌋) ∧
  add16 0x7FFF 0x0001 = 0x8000 ∧ sub16 0x8000 0x0001 = 0x7FFF ∧ sub16 0 0x8000 = 0x8000 ∧
  neg16 0x8000 = 0x8000 ∧ neg16 0 = 0 ∧ (∀ v ∈ sinTable, -128 ≤ sint16 v ∧ sint16 v ≤ 128) ∧
  asr1 0x0003 = 0x0001 ∧ asr1 0xFFFD = 0xFFFE ∧ asr1 0xFFFF = 0xFFFF ∧ asr1 0x0001 = 0 ∧ asr1 0x8000 = 0xC000 ∧
  asr1 0x7FFF = 0x3FFF

/-- `rev7` reverses the seven bits of an index; it is an involution with 16 fixed points and 56 transpositions
(rule R117). -/
def Obligations.BitReversal : Prop :=
  (∀ i : BitVec 7, (rev7 i).toNat = ((List.range 7).map fun b => (i.getLsbD b).toNat * 2 ^ (6 - b)).sum) ∧
  (∀ i : BitVec 7, rev7 (rev7 i) = i) ∧
  ((List.range 128).countP fun i => rev7 (BitVec.ofNat 7 i) = BitVec.ofNat 7 i) = 16 ∧
  ((List.range 128).countP fun i => i < (rev7 (BitVec.ofNat 7 i)).toNat) = 56 ∧
  rev7 1 = 64 ∧ rev7 2 = 32 ∧ rev7 3 = 96 ∧ rev7 64 = 1 ∧ rev7 5 = 80 ∧ rev7 127 = 127 ∧ rev7 0 = 0 ∧ rev7 8 = 8 ∧
  rev7 0b0001101 = 0b1011000

/-- Converting a number to fixed point and back loses less than 1/256, and a pattern survives the round trip
(rule R115, over the rationals: notes/assumptions/16.md). -/
def Obligations.FixedPointRoundTrip : Prop :=
  (∀ r : ℚ, -128 ≤ r → r < 128 → |unfix (Machine.fix r) - r| < 1 / 256) ∧
  (∀ w : Word, Machine.fix (unfix w) = w) ∧
  (∀ w : Word, unfix w = (sint16 w : ℚ) / 256)

/-- The properties of the sine table that rule R24 gives a model to check (the half-cycle property for the 64 indices whose
mirror exists: there is no cell 128), the cosine as the table's second quarter on
(rule R118), and that a twiddle factor has magnitude at most one half (rule R116). -/
def Obligations.SineTableProperties : Prop :=
  sinTable.length = 128 ∧ sinAt Config.default 0 = 0 ∧ sinAt Config.default 32 = 0x0080 ∧
  sinAt Config.default 64 = 0 ∧ sinAt Config.default 96 = 0xFF80 ∧
  (∀ i < 64, sinAt Config.default (64 + i) = neg16 (sinAt Config.default i)) ∧
  (∀ i ≤ 64, sinAt Config.default (64 - i) = sinAt Config.default i) ∧
  (∀ a < 64, twiddleRe Config.default a = sinTable.getD (a + 32) 0 ∧
    twiddleIm Config.default a = neg16 (sinTable.getD a 0)) ∧
  (∀ a < 64, sint16 (twiddleRe Config.default a) ^ 2 + sint16 (twiddleIm Config.default a) ^ 2 ≤ 128 ^ 2) ∧
  twiddleRe Config.default 16 = 0x005A ∧ twiddleIm Config.default 16 = 0xFFA6 ∧
  twiddleRe Config.default 63 = 0xFF81 ∧ twiddleIm Config.default 63 = 0xFFFA

/-- One butterfly with the default table and multiply, on operands of complex magnitude at most `R`, wraps nowhere and gives results of
magnitude at most `R + 3`: why the scaling works (rule R116). -/
def Obligations.ButterflyMagnitudeBound : Prop :=
  ∀ (a R : Nat) (x y : Cplx), a < 64 → R ≤ 32750 →
    sint16 x.re ^ 2 + sint16 x.im ^ 2 ≤ (R : Int) ^ 2 → sint16 y.re ^ 2 + sint16 y.im ^ 2 ≤ (R : Int) ^ 2 →
    ∀ w : Cplx, w = ⟨twiddleRe Config.default a, twiddleIm Config.default a⟩ →
      ButterflyExact Config.default w x y ∧
      sint16 (bflyLow Config.default w x y).re ^ 2 + sint16 (bflyLow Config.default w x y).im ^ 2 ≤ ((R : Int) + 3) ^ 2 ∧
      sint16 (bflyHigh Config.default w x y).re ^ 2 + sint16 (bflyHigh Config.default w x y).im ^ 2 ≤ ((R : Int) + 3) ^ 2

/-! ## The whole transform -/

/-- From FFT.START a transform takes 127 steps in phase REORDER and 448 in phase BFLY, 575 in all, for every input; it
ends idle with `FFT_DONE` set and `FR`, `FI` holding the function `T` of the arrays, with nothing else changed (rules
R128, R129). -/
def Obligations.TransformRunsToCompletion : Prop :=
  (∀ (fr : Memory 16) (i : BitVec 7), Memory.wf fr = true →
    (bitReverse fr).read i.toNat = fr.read (rev7 i).toNat) ∧
  butterflyOrder.length = 448 ∧
  (∀ s : State, MachineOk s → s.fftPh = .idle →
    ∃ u v t, exec .fftStart s = .next u ∧ TakesSteps .fft 127 u v ∧ v.fftPh = .bfly ∧ TakesSteps .fft 448 v t ∧
      agentEnabled .fft t = false ∧
      t = { s with
            fr := (transform s.cfg (s.fr, s.fi)).1, fi := (transform s.cfg (s.fr, s.fi)).2, fftDone := true
            resp := some (responseWord .ack 0) })

/-- Exact small cases of the transform with the default table and multiply: silence; an even constant; an impulse that is a multiple of
128 (rule R132). -/
def Obligations.ExactSmallTransforms : Prop :=
  (∀ i < 128, tableAt (transform Config.default ([], [])) i = ⟨0, 0⟩) ∧
  (∀ (fr fi : Memory 16) (c : Word), Memory.wf fr = true → Memory.wf fi = true →
    (∀ i < 128, fr.read i = c) → (∀ i < 128, fi.read i = 0) → sint16 c % 2 = 0 →
    ∀ i < 128, tableAt (transform Config.default (fr, fi)) i = ⟨if i = 0 then c else 0, 0⟩) ∧
  (∀ (fr fi : Memory 16) (v : Word), Memory.wf fr = true → Memory.wf fi = true →
    (∀ i < 128, fr.read i = if i = 0 then v else 0) → (∀ i < 128, fi.read i = 0) → sint16 v % 128 = 0 →
    ∀ i < 128, tableAt (transform Config.default (fr, fi)) i = ⟨wrap16 (sint16 v / 128), 0⟩)

/-- A transform of real samples of amplitude at most 32700 raw, with the default table and multiply, wraps in no operation of any of
its 448 butterflies: the property rule R116 asks a model to state as a predicate over a run. -/
def Obligations.TransformOfRealSamplesNeverWraps : Prop :=
  ∀ fr fi : Memory 16, Memory.wf fr = true → Memory.wf fi = true →
    (∀ i < 128, -32700 ≤ sint16 (fr.read i) ∧ sint16 (fr.read i) ≤ 32700) → (∀ i < 128, fi.read i = 0) →
    ∀ (n stage m i : Nat) (u : Table), butterflyOrder[n]? = some (stage, m, i) →
      u = (butterflyOrder.take n).foldl (fun acc b => butterfly Config.default b.1 b.2.1 b.2.2 acc)
        (bitReverse fr, fi) →
      ButterflyExact Config.default
        ⟨twiddleRe Config.default (angleIndex stage m), twiddleIm Config.default (angleIndex stage m)⟩
        (tableAt u i) (tableAt u (i + halfSpan stage))

/-! ## Reset -/

/-- The reset state, unit by unit, with the default parameters, and the four words a host reads in it (rule R271). -/
def Obligations.ResetTable : Prop :=
  ((∀ k, State.reset.fr.read k = 0) ∧ (∀ k, State.reset.fi.read k = 0) ∧ State.reset.fftPh = .idle ∧
    State.reset.fftDone = false ∧ State.reset.regS = 0 ∧ State.reset.regM = 0 ∧ State.reset.regI = 0 ∧
    State.reset.cfg.sin = sinTable) ∧
  ((∀ k, State.reset.txbins.read k = 0) ∧ State.reset.strPh = .idle ∧ State.reset.regCh = 0 ∧ State.reset.regBy = 0 ∧
    State.reset.dr = false ∧ State.reset.frq = false) ∧
  (State.reset.thr = none ∧ State.reset.tsr = none ∧ State.reset.rxq = [] ∧ State.reset.ovr = false ∧
    txe State.reset = true ∧ txc State.reset = true ∧ rxc State.reset = false) ∧
  (State.reset.line = 262 ∧ State.reset.pol = false ∧ State.reset.sync = true ∧ State.reset.out = [] ∧
    (∀ k, State.reset.fb.read k = 0) ∧ (∀ k, State.reset.rxbins.read k = 0) ∧ State.reset.rxcnt = 0 ∧
    State.reset.rr = false ∧ State.reset.snkPh = .idle ∧ State.reset.col = 0 ∧ State.reset.rb = 0 ∧
    State.reset.tickPend = false ∧ State.reset.miss = false) ∧
  (exec .fftStat State.reset = .next { State.reset with resp := some 0x00000000 } ∧
    exec .strStat State.reset = .next { State.reset with resp := some 0x00000018 } ∧
    exec .snkStat State.reset = .next { State.reset with resp := some 0x00000000 } ∧
    exec .snkRdline State.reset = .next { State.reset with resp := some 0x00000106 })

/-- For every parameter set that is an instantiation the reset state meets the invariant (rules R10 to R12, R271). -/
def Obligations.ResetMeetsInvariant : Prop :=
  (∀ c : Config, c.valid = true → MachineOk (State.resetWith c)) ∧ MachineOk State.reset

/-! ## Invariants of every step -/

/-- Every step keeps the invariant: canonical memories, the ranges of the counters, the lines and pins by phase, the
polarity by line (rules R25 to R52, R60, R65). -/
def Obligations.StepKeepsInvariant : Prop :=
  ∀ s t : State, MachineOk s → step s = .next t → MachineOk t

/-- In a state that meets the invariant a step always has a next state: no index leaves its memory, and nothing a port word
says stops the machine (rules R65, R98, R240). -/
def Obligations.StepNeverStops : Prop :=
  ∀ s : State, MachineOk s → ∃ t, step s = .next t

/-- Only the operations rule R20 lists for it write each piece of state. -/
def Obligations.OnlyListedOperationsWrite : Prop :=
  ∀ (i : Instr) (s t : State), isMicro i = true ∨ isCommand i = true ∨ i = .evtLine → exec i s = .next t →
    (t.fr ≠ s.fr → (∃ k d, i = .fftLds k d) ∨ i = .fftSwap ∨ i = .fftBfly) ∧
    (t.fi ≠ s.fi → (∃ k d, i = .fftLds k d) ∨ i = .fftBfly) ∧
    (t.fftPh ≠ s.fftPh ∨ t.regS ≠ s.regS ∨ t.regM ≠ s.regM ∨ t.regI ≠ s.regI →
      i = .fftStart ∨ i = .fftSwap ∨ i = .fftBfly) ∧
    (t.fftDone ≠ s.fftDone → i = .fftBfly ∨ i = .fftStart ∨ ∃ k d, i = .fftLds k d) ∧
    (t.txbins ≠ s.txbins → ∃ k b, i = .strWrb k b) ∧
    (t.strPh ≠ s.strPh → i = .strSend ∨ i = .strWaitrr ∨ i = .strPush ∨ i = .strFin) ∧
    (t.regCh ≠ s.regCh ∨ t.regBy ≠ s.regBy → i = .strSend ∨ i = .strPush) ∧
    (t.dr ≠ s.dr → i = .strSend ∨ i = .strFin) ∧
    (t.frq ≠ s.frq → ∃ b, i = .strSetfr b) ∧
    (t.thr ≠ s.thr → i = .strPush ∨ i = .lnkLoad) ∧
    (t.tsr ≠ s.tsr → i = .lnkLoad ∨ i = .lnkXfer) ∧
    (t.rxq ≠ s.rxq → i = .lnkXfer ∨ i = .rcvRd0 ∨ i = .rcvRdn) ∧
    (t.ovr ≠ s.ovr → i = .lnkXfer) ∧
    (t.line ≠ s.line ∨ t.pol ≠ s.pol → i = .rasCount) ∧
    (t.sync ≠ s.sync → i = .rasSyncon ∨ i = .rasSyncoff) ∧
    (t.out ≠ s.out → i = .rasSyncon ∨ i = .rasSyncoff ∨ i = .rasEmit) ∧
    (t.fb ≠ s.fb → ∃ a b, i = .snkWrfb a b) ∧
    (t.rxbins ≠ s.rxbins → i = .rcvRd0 ∨ i = .rcvRdn) ∧
    (t.rxcnt ≠ s.rxcnt → i = .rcvRd0 ∨ i = .rcvRdn ∨ i = .snkRstcnt) ∧
    (t.rr ≠ s.rr → i = .rcvPoll ∨ i = .rcvRdyoff) ∧
    (t.snkPh ≠ s.snkPh → (∃ c, encode i = .phase .snkPh c)) ∧
    (t.col ≠ s.col → i = .rasSyncoff ∨ i = .rasEmit) ∧
    (t.rb ≠ s.rb → i = .rcvPoll ∨ i = .rcvRd0 ∨ i = .rcvRdn) ∧
    (t.tickPend ≠ s.tickPend → i = .evtLine ∨ i = .rasSyncon) ∧
    (t.miss ≠ s.miss → i = .evtLine) ∧
    (t.resp ≠ s.resp → isMicro i = false) ∧
    t.cfg = s.cfg ∧ t.turns = s.turns

/-- Every step, whatever the word or agent: the parameters and the sine table stand, a set fault bit stays set, `MISS`
is set only by a tick that finds one pending, the output trace only grows, and one turn is used (rules R41, R45, R53, R78,
R243). -/
def Obligations.StickyBitsAndParameters : Prop :=
  ∀ s t : State, step s = .next t →
    t.cfg = s.cfg ∧ (s.ovr = true → t.ovr = true) ∧ (s.miss = true → t.miss = true) ∧
    (t.miss = true → s.miss = true ∨ (s.tickPend = true ∧ ∃ ts, s.turns = .word 0xE1000000 :: ts)) ∧
    s.out <+: t.out ∧ t.turns = s.turns.tail

/-- The ownership gates of the shared buffers: while the FFT unit is busy no command changes `FR` or `FI`; while a frame
is in flight nothing changes `TXBINS`; while 32 bins stand unread nothing writes `RXBINS`; inside an invocation no command
changes `FB` or `RXCNT` (rules R71 to R74, R285 to R287). -/
def Obligations.OwnershipGates : Prop :=
  (∀ (i : Instr) (s t : State), isCommand i = true → s.fftPh ≠ .idle → exec i s = .next t →
    t.fr = s.fr ∧ t.fi = s.fi ∧ t.fftPh = s.fftPh) ∧
  (∀ s t : State, s.strPh ≠ .idle → step s = .next t → t.txbins = s.txbins) ∧
  (∀ s t : State, MachineOk s → s.rxcnt = 32 → step s = .next t → t.rxbins = s.rxbins) ∧
  (∀ (i : Instr) (s t : State), isCommand i = true → s.snkPh ≠ .idle → exec i s = .next t →
    t.fb = s.fb ∧ t.rxcnt = s.rxcnt ∧ t.snkPh = s.snkPh)

/-- The FFT sequencer's steps commute with every operation outside the FFT unit: in either order the same state results, so
no other agent can tell a transform done step by step from one done at once (rules R75, R119, R128). -/
def Obligations.FftStepsCommuteWithOtherUnits : Prop :=
  ∀ (i : Instr) (s t u : State), isMicro i = true ∨ isCommand i = true ∨ i = .evtLine →
    (∀ c, encode i ≠ .phase .fftPh c) → (∀ w, encode i = .word w → unitField w ≠ 1) →
    exec i s = .next t → stepAgent .fft s = .next u →
    ∃ v, exec i u = .next v ∧ stepAgent .fft t = .next v

/-! ## The link -/

/-- Framing. In every execution in which `OVR` stays 0, whatever the schedule and the hosts do, the bytes received are the
bytes pushed, in order: a frame begins with the 32 bytes that `TXBINS` holds at STR.SEND, and when `RXCNT` is 32 `RXBINS`
holds the 32 bytes of one frame (rules R62, R152, R158). `f` is the stream of all frames, `p` and `r` count the bytes
pushed and received. A step that is no accepted STR.SEND keeps the stream, and advances `p` by what the Streamer pushed and
`r` by what the Receiver took; an accepted STR.SEND appends the frame at `p` and moves neither. -/
def Obligations.FramesArriveWholeAndInOrder : Prop :=
  (∀ c : Config, Streamed (fun _ => 0) 0 0 (State.resetWith c)) ∧
  (∀ (f : Nat → Byte) (p r : Nat) (s t : State), MachineOk s → Streamed f p r s → step s = .next t → t.ovr = false →
    sendMoves s = false →
    ∃ p' r', Streamed f p' r' t ∧ p' + pushIndex s = p + pushIndex t ∧ p ≤ p' ∧ r ≤ r' ∧
      (rearmMoves s = false → r' + s.rxcnt.toNat = r + t.rxcnt.toNat) ∧ (rearmMoves s = true → r' = r)) ∧
  (∀ (f : Nat → Byte) (p r : Nat) (s t : State), MachineOk s → Streamed f p r s → step s = .next t →
    sendMoves s = true →
    p % 32 = 0 ∧ Streamed (fun k => if k < p then f k else s.txbins.read (k - p)) p r t) ∧
  (∀ (f : Nat → Byte) (p r : Nat) (s t : State), MachineOk s → Streamed f p r s → s.strPh = .idle →
    exec .strSend s = .next t →
    p % 32 = 0 ∧ Streamed (fun k => if k < p then f k else s.txbins.read (k - p)) p r t) ∧
  (∀ (f : Nat → Byte) (p r : Nat) (s : State), Streamed f p r s → s.rxcnt = 32 →
    (r - 32) % 32 = 0 ∧ ∀ k < 32, s.rxbins.read k = f (r - 32 + k))

/-- Framing over a run from reset, for every parameter set, schedule and behaviour of the hosts: while `OVR` is 0, what
`RXBINS` holds of a frame is what `TXBINS` held at that frame's STR.SEND, byte for byte, all 32 bytes when `RXCNT` is 32; a
new frame is received only after SNK.RSTCNT has released the one before; and the nodes do not wait for each other (rules
R158, R285). -/
def Obligations.FullBinsAreTheFrameSent : Prop :=
  ∀ (c : Config) (ts : List Turn) (n : Nat) (s : State), c.valid = true → s = State.resetRun c ts →
    (stateAt s n).ovr = false →
    ReceivedIsSent s n ∧ OnlyIdleWaits (stateAt s n) ∧
    ((stateAt s n).rxcnt = 32 → ∃ i < n, sendMoves (stateAt s i) = true ∧
      stepsWith sendMoves s i = stepsWith rearmMoves s n ∧
      ∀ k < 32, (stateAt s n).rxbins.read k = (stateAt s i).txbins.read k)

/-- The rows of the table of rule R281 that say yes: over a run from reset, for every schedule of single turns
(notes/assumptions/23.md), premises P1 and P2 keep `OVR` 0 when `RX_DEPTH` is at least 2, the default, and P2 alone when it
is at least 4; with 32 or more no premise is needed for one frame, and EVT.RUN and EVT.SETTLE may stand in the schedule. In
each case the frame's bytes are received in order and there is no deadlock (rules R158, R281). -/
def Obligations.LinkPremisesPreventOverrun : Prop :=
  (∀ (c : Config) (ts : List Turn) (n : Nat) (s : State), c.valid = true → 2 ≤ c.rxDepth →
    (∀ t ∈ ts, singleTurn t = true) → s = State.resetRun c ts → ReceiverKeepsUp s n → ReadySeenInTime s n →
    (stateAt s n).ovr = false ∧ ReceivedIsSent s n ∧ OnlyIdleWaits (stateAt s n)) ∧
  (∀ (c : Config) (ts : List Turn) (n : Nat) (s : State), c.valid = true → 4 ≤ c.rxDepth →
    (∀ t ∈ ts, singleTurn t = true) → s = State.resetRun c ts → ReadySeenInTime s n →
    (stateAt s n).ovr = false ∧ ReceivedIsSent s n ∧ OnlyIdleWaits (stateAt s n)) ∧
  (∀ (c : Config) (ts : List Turn) (n : Nat) (s : State), c.valid = true → 32 ≤ c.rxDepth → s = State.resetRun c ts →
    stepsWith sendMoves s n ≤ 1 →
    (stateAt s n).ovr = false ∧ ReceivedIsSent s n ∧ OnlyIdleWaits (stateAt s n))

/-- The rows of the table of rule R281 that say no: an overrun is reachable within one frame, with depth 1 under both
premises, with depth 2 under either alone, with depth 3 under P2 alone, and with depths 4 to 31 under none (rules R281,
R282). -/
def Obligations.LinkHazardsAreReachable : Prop :=
  OverrunReachable 1 true true ∧ OverrunReachable 2 true false ∧ OverrunReachable 2 false true ∧
  OverrunReachable 3 false true ∧ ∀ d, 4 ≤ d → d ≤ 31 → OverrunReachable d false false

/-- The premises of rules R284 and R289, over a run from reset. With P3, and while `OVR` is 0, the Receiver never waits for
a frame that no STR.SEND has begun; without P3 that wait is reachable with no byte lost. When every EVT.LINE finds the sink
idle and no tick pending, `MISS` stays 0; and by single turns each tick then has its own RAS.SYNCON, the last one at most
still to come. -/
def Obligations.VideoPremises : Prop :=
  (∀ (c : Config) (ts : List Turn) (n : Nat) (s : State), c.valid = true → s = State.resetRun c ts →
    (stateAt s n).ovr = false → RearmsAfterDrain s n → ¬WaitsForNextFrame (stateAt s n)) ∧
  (∃ (ts : List Turn) (n : Nat), (stateAt (State.resetRun Config.default ts) n).ovr = false ∧
    WaitsForNextFrame (stateAt (State.resetRun Config.default ts) n)) ∧
  (∀ (c : Config) (ts : List Turn) (n : Nat) (s : State), s = State.resetRun c ts → TicksWhenIdle s n →
    (stateAt s n).miss = false ∧
    ((∀ t ∈ ts, singleTurn t = true) →
      stepsWith lineMoves s n = stepsWith synconMoves s n + (stateAt s n).tickPend.toNat))

/-- With a receive queue of at least four bytes, premise P2 alone keeps `OVR` 0: while STR.WAITRR is never taken on a
stale ready, at most one chunk is between the nodes and no byte is lost (rules R158, R281). EVT.RUN and EVT.SETTLE are
left out because P2 is a premise on each step. -/
def Obligations.PacedLinkNeverOverruns : Prop :=
  (∀ c : Config, Paced (State.resetWith c)) ∧
  (∀ (i : Instr) (f : Nat → Byte) (p r : Nat) (s t : State), MachineOk s → 4 ≤ s.cfg.rxDepth → Streamed f p r s →
    Paced s → (∀ a, i ≠ .evtRun a) → i ≠ .evtSettle →
    (s.strPh = .waitrr → i = .strWaitrr ∨ i = .evtStep .str → ReadyNotStale s) →
    exec i s = .next t → t.ovr = s.ovr ∧ Paced t)

/-- After a byte of a chunk is lost, with the Receiver holding for it and the Streamer holding for `RR`, both nodes stall
for good: every step keeps the stall, no further output event appears, and no sink command but a malformed one gets an
answer other than NAK_BUSY (rules R189, R244, R283). -/
def Obligations.LostByteStallsBothNodes : Prop :=
  (∀ s t : State, BothStalled s → step s = .next t → BothStalled t ∧ t.out = s.out ∧ t.rxcnt = s.rxcnt) ∧
  (∀ s : State, BothStalled s → agentEnabled .str s = false ∧ agentEnabled .lnk s = false ∧ agentEnabled .snk s = false) ∧
  (∀ (s : State) (w : PortWord), BothStalled s → unitField w = 3 →
    expectedCode w s = .nakBusy ∨ expectedCode w s = .nakArg)

/-! ## The raster -/

/-- A visible invocation is exactly `3 + BPR` steps and never holds; it appends `Sync(0)`, `Sync(1)` and the `BPR` bytes of
the line's row to `OUT`, and changes nothing else but `LINE`, `TICK_PEND` and the phase (rules R186, R188). -/
def Obligations.VisibleInvocation : Prop :=
  ∀ (s : State) (n : Nat), MachineOk s → s.snkPh = .idle → s.tickPend = true →
    n = (if s.line.toNat + 1 = s.cfg.wrapAt then s.cfg.lineFirst else s.line.toNat + 1) →
    s.cfg.visTop ≤ n → n < s.cfg.visBot →
    ∃ t, TakesSteps .snk (3 + s.cfg.bpr) s t ∧
      t = { s with
            tickPend := false, line := BitVec.ofNat 9 n
            out := s.out ++ [.sync false, .sync true] ++
              (List.range s.cfg.bpr).map fun k => .pix (s.fb.read ((n - s.cfg.visTop) * s.cfg.bpr + k)) }

/-- A blanking invocation appends two `Sync` events, with the levels of rule R186 for its line. It is 3 steps when the line
is in the vertical-sync region and `RX_IN_VSYNC` is false; else 4 steps when RCV.POLL declines; else RCV.POLL accepts with
its fourth step, and five more steps receive exactly one chunk: at once when four bytes are queued; and in every case, for
every depth of the queue, each of those steps counts what it adds to `RB`, and the invocation ends at the fourth byte and
not before (rules R159, R184, R186, R188). -/
def Obligations.BlankingInvocation : Prop :=
  (∀ (s : State) (n : Nat), MachineOk s → s.snkPh = .idle → s.tickPend = true →
    n = (if s.line.toNat + 1 = s.cfg.wrapAt then s.cfg.lineFirst else s.line.toNat + 1) →
    ¬(s.cfg.visTop ≤ n ∧ n < s.cfg.visBot) →
    ∀ (inRegion : Bool) (t : State), inRegion = decide (s.cfg.vsStart ≤ n ∧ n < s.cfg.vsEnd) →
      t = { s with
            tickPend := false, line := BitVec.ofNat 9 n, pol := inRegion, sync := !inRegion
            out := s.out ++ [.sync (decide (s.cfg.vsStart < n ∧ n ≤ s.cfg.vsEnd)), .sync (!inRegion)] } →
      (inRegion = true ∧ s.cfg.rxInVsync = false → TakesSteps .snk 3 s t) ∧
      (¬(inRegion = true ∧ s.cfg.rxInVsync = false) → ¬(s.dr = true ∧ s.rxcnt.toNat < 32) → TakesSteps .snk 4 s t) ∧
      (¬(inRegion = true ∧ s.cfg.rxInVsync = false) → s.dr = true ∧ s.rxcnt.toNat < 32 →
        TakesSteps .snk 4 s { t with rr := true, snkPh := .rrd0 })) ∧
  (∀ (s : State) (b0 b1 b2 b3 : Byte) (rest : List Byte), MachineOk s → s.snkPh = .rrd0 →
    s.rxq = b0 :: b1 :: b2 :: b3 :: rest →
    ∃ t, TakesSteps .snk 5 s t ∧ t.rxcnt.toNat = s.rxcnt.toNat + 4 ∧
      (∀ k, t.rxbins.read k =
        if k = s.rxcnt.toNat then b0 else if k = s.rxcnt.toNat + 1 then b1 else if k = s.rxcnt.toNat + 2 then b2
        else if k = s.rxcnt.toNat + 3 then b3 else s.rxbins.read k) ∧
      t = { s with rxq := rest, rxbins := t.rxbins, rxcnt := t.rxcnt, rr := false, snkPh := .idle }) ∧
  (∀ s t : State, MachineOk s → s.snkPh = .rrd0 ∨ s.snkPh = .rrdyoff ∨ s.snkPh = .rrdn → stepAgent .snk s = .next t →
    (t.rxcnt.toNat + s.rb.toNat = s.rxcnt.toNat + t.rb.toNat ∧
      (t.snkPh = .rrd0 ∨ t.snkPh = .rrdyoff ∨ t.snkPh = .rrdn)) ∨
    (s.snkPh = .rrdn ∧ s.rb = 3 ∧ t.snkPh = .idle ∧ t.rxcnt.toNat + s.rb.toNat = s.rxcnt.toNat + 4))

/-- An invocation that RCV.POLL accepts receives exactly four bytes before it ends, whatever the other agents and the hosts
do meanwhile, for every depth of the queue: inside it `RXCNT - RB` stands, its sink steps are RCV.POLL and five more, and it
returns from RRDN with `RXCNT` four above its value at RCV.POLL and no other bin changed. A sink step outside phases RRD0
to RRDN receives nothing, a visible line's among them, and a frame takes eight accepted invocations, none on a visible line
(41_framer.md section 5, rule R159). That the schedules are of single turns, without EVT.RUN and EVT.SETTLE, is the model's
choice (notes/assumptions/23.md), and the count over a run is inferred from the rule. -/
def Obligations.AcceptedInvocationReceivesOneChunk : Prop :=
  (∀ s t : State, MachineOk s → (∀ u ∈ s.turns, singleTurn u = true) →
    s.snkPh = .rrd0 ∨ s.snkPh = .rrdyoff ∨ s.snkPh = .rrdn → step s = .next t →
    (t.rxcnt.toNat + s.rb.toNat = s.rxcnt.toNat + t.rb.toNat ∧
      (t.snkPh = .rrd0 ∨ t.snkPh = .rrdyoff ∨ t.snkPh = .rrdn)) ∨
    (s.snkPh = .rrdn ∧ s.rb = 3 ∧ t.snkPh = .idle ∧ t.rxcnt.toNat + s.rb.toNat = s.rxcnt.toNat + 4)) ∧
  (∀ (s : State) (n : Nat), MachineOk s → (∀ u ∈ s.turns, singleTurn u = true) → acceptMoves s = true → 0 < n →
    (∀ k < n, (stateAt s k).snkPh ≠ .idle) → (stateAt s n).snkPh = .idle →
    (stateAt s n).rxcnt.toNat = s.rxcnt.toNat + 4 ∧ stepsWith (agentMoves .snk) s n = 6 ∧
    ∀ k, k < s.rxcnt.toNat ∨ s.rxcnt.toNat + 4 ≤ k → (stateAt s n).rxbins.read k = s.rxbins.read k) ∧
  (∀ s t : State, MachineOk s → (∀ u ∈ s.turns, singleTurn u = true) →
    s.snkPh = .count ∨ s.snkPh = .syncoff ∨ s.snkPh = .emit ∨ s.snkPh = .rpoll → step s = .next t →
    t.rxcnt = s.rxcnt ∧ t.rxbins = s.rxbins ∧ (s.snkPh = .emit → t.snkPh = .emit ∨ t.snkPh = .idle)) ∧
  (∀ s : State, MachineOk s → acceptMoves s = true → s.dr = true ∧ visibleLine s.cfg s.line.toNat = false) ∧
  (∀ (c : Config) (ts : List Turn) (n : Nat) (s : State), c.valid = true → (∀ t ∈ ts, singleTurn t = true) →
    s = State.resetRun c ts →
    32 * stepsWith rearmMoves s n + (stateAt s n).rxcnt.toNat +
        (if (stateAt s n).snkPh = .rrd0 ∨ (stateAt s n).snkPh = .rrdyoff ∨ (stateAt s n).snkPh = .rrdn then 4 else 0) =
      4 * stepsWith acceptMoves s n + (stateAt s n).rb.toNat)

/-- Over a frame of `LINES` invocations the counter takes each value from `LINE_FIRST` to `WRAP_AT - 1` once, cyclically,
`VIS_LINES` invocations are visible, `VS_END - VS_START` end with `POL = 1`, and the counter and polarity are back where
they were, so there is no drift (rules R183, R187). -/
def Obligations.FrameHasTheConfiguredLines : Prop :=
  (∀ s : State, s.snkPh = .count → exec .rasCount s = .next { nextScanline s with snkPh := .syncoff }) ∧
  (∀ (s : State) (k : Nat), MachineOk s → (scanlineAfter k s).line.toNat =
    s.cfg.lineFirst + (s.line.toNat - s.cfg.lineFirst + k) % s.cfg.lines) ∧
  (∀ s : State, MachineOk s →
    ((List.range s.cfg.lines).countP fun k => visibleLine s.cfg (scanlineAfter (k + 1) s).line.toNat) = s.cfg.visLines ∧
    ((List.range s.cfg.lines).countP fun k => (scanlineAfter (k + 1) s).pol) = s.cfg.vsEnd - s.cfg.vsStart ∧
    ((List.range s.cfg.lines).countP fun k => !visibleLine s.cfg (scanlineAfter (k + 1) s).line.toNat) =
      s.cfg.lines - s.cfg.visLines ∧
    scanlineAfter s.cfg.lines s = s)
end

