-- ==== Sys2Proof/Laws/Decode.lean ====
section
/-! SUPPORT. The fields of an assembled word are what it was assembled from. -/

namespace Sys2Proof

theorem getLsbD_formatA (u o : BitVec 4) (i : BitVec 8) (d : Word) (k : Nat) :
    (formatA u o i d).getLsbD k =
      if k < 16 then d.getLsbD k else if k < 24 then i.getLsbD (k - 16)
      else if k < 28 then o.getLsbD (k - 24) else u.getLsbD (k - 28) := by
  unfold formatA
  erw [BitVec.getLsbD_append, BitVec.getLsbD_append, BitVec.getLsbD_append]
  repeat' split
  all_goals first | rfl | (exfalso; omega)

theorem getLsbD_formatB (u o : BitVec 4) (a : BitVec 16) (b : Byte) (k : Nat) :
    (formatB u o a b).getLsbD k =
      if k < 8 then b.getLsbD k else if k < 24 then a.getLsbD (k - 8)
      else if k < 28 then o.getLsbD (k - 24) else u.getLsbD (k - 28) := by
  unfold formatB
  erw [BitVec.getLsbD_append, BitVec.getLsbD_append, BitVec.getLsbD_append]
  repeat' split
  all_goals first | rfl | (exfalso; omega)

@[simp] theorem unitField_formatA (u o : BitVec 4) (i : BitVec 8) (d : Word) : unitField (formatA u o i d) = u := by
  ext k hk
  simp only [unitField, BitVec.getElem_extractLsb', getLsbD_formatA]
  rw [if_neg (by omega), if_neg (by omega), if_neg (by omega), Nat.add_sub_cancel_left, BitVec.getLsbD_eq_getElem hk]

@[simp] theorem opField_formatA (u o : BitVec 4) (i : BitVec 8) (d : Word) : opField (formatA u o i d) = o := by
  ext k hk
  simp only [opField, BitVec.getElem_extractLsb', getLsbD_formatA]
  rw [if_neg (by omega), if_neg (by omega), if_pos (by omega), Nat.add_sub_cancel_left, BitVec.getLsbD_eq_getElem hk]

@[simp] theorem idxField_formatA (u o : BitVec 4) (i : BitVec 8) (d : Word) : idxField (formatA u o i d) = i := by
  ext k hk
  simp only [idxField, BitVec.getElem_extractLsb', getLsbD_formatA]
  rw [if_neg (by omega), if_pos (by omega), Nat.add_sub_cancel_left, BitVec.getLsbD_eq_getElem hk]

@[simp] theorem dataField_formatA (u o : BitVec 4) (i : BitVec 8) (d : Word) : dataField (formatA u o i d) = d := by
  ext k hk
  simp only [dataField, BitVec.getElem_extractLsb', getLsbD_formatA]
  rw [if_pos (by omega), Nat.zero_add, BitVec.getLsbD_eq_getElem hk]

@[simp] theorem unitField_formatB (u o : BitVec 4) (a : BitVec 16) (b : Byte) : unitField (formatB u o a b) = u := by
  ext k hk
  simp only [unitField, BitVec.getElem_extractLsb', getLsbD_formatB]
  rw [if_neg (by omega), if_neg (by omega), if_neg (by omega), Nat.add_sub_cancel_left, BitVec.getLsbD_eq_getElem hk]

@[simp] theorem opField_formatB (u o : BitVec 4) (a : BitVec 16) (b : Byte) : opField (formatB u o a b) = o := by
  ext k hk
  simp only [opField, BitVec.getElem_extractLsb', getLsbD_formatB]
  rw [if_neg (by omega), if_neg (by omega), if_pos (by omega), Nat.add_sub_cancel_left, BitVec.getLsbD_eq_getElem hk]

@[simp] theorem addrField_formatB (u o : BitVec 4) (a : BitVec 16) (b : Byte) : addrField (formatB u o a b) = a := by
  ext k hk
  simp only [addrField, BitVec.getElem_extractLsb', getLsbD_formatB]
  rw [if_neg (by omega), if_pos (by omega), Nat.add_sub_cancel_left, BitVec.getLsbD_eq_getElem hk]

@[simp] theorem byteField_formatB (u o : BitVec 4) (a : BitVec 16) (b : Byte) : byteField (formatB u o a b) = b := by
  ext k hk
  simp only [byteField, BitVec.getElem_extractLsb', getLsbD_formatB]
  rw [if_pos (by omega), Nat.zero_add, BitVec.getLsbD_eq_getElem hk]

end Sys2Proof
end

