-- ==== Sys2Proof/Laws/Memory.lean ====
section
/-! SUPPORT. The memories: a read after a write, the canonical form and the index bound are kept, and equal reads make
equal memories. -/

namespace Sys2Proof.Machine

variable {w : Nat}

@[simp] theorem Memory.unlisted_eq : Memory.unlisted w = 0#w := rfl

@[simp] theorem Memory.read_nil (a : Nat) : Memory.read ([] : Memory w) a = 0#w := rfl

theorem Memory.read_cons (b : Nat) (v : BitVec w) (m : Memory w) (a : Nat) :
    Memory.read ((b, v) :: m) a = if a = b then v else Memory.read m a := rfl

/-- An index below every listed one reads as unlisted. -/
theorem Memory.read_below {lo : Nat} {m : Memory w} (h : Memory.wfFrom lo m = true) {a : Nat} (ha : a < lo) :
    Memory.read m a = 0#w := by
  induction m generalizing lo with
  | nil => rfl
  | cons c rest ih =>
    obtain ⟨b, v⟩ := c
    simp only [Memory.wfFrom, Bool.and_eq_true, decide_eq_true_eq] at h
    rw [Memory.read_cons, if_neg (by omega)]
    exact ih h.2 (by omega)

theorem Memory.wfFrom_mono {lo hi : Nat} {m : Memory w} (h : Memory.wfFrom hi m = true) (hl : lo ≤ hi) :
    Memory.wfFrom lo m = true := by
  cases m with
  | nil => rfl
  | cons c rest =>
    obtain ⟨b, v⟩ := c
    simp only [Memory.wfFrom, Bool.and_eq_true, decide_eq_true_eq] at h ⊢
    exact ⟨⟨by omega, h.1.2⟩, h.2⟩

/-- A write keeps the canonical form. -/
theorem Memory.wfFrom_write {lo : Nat} {m : Memory w} (h : Memory.wfFrom lo m = true) {a : Nat} (ha : lo ≤ a)
    (v : BitVec w) : Memory.wfFrom lo (Memory.write m a v) = true := by
  induction m generalizing lo with
  | nil => by_cases hv : v = 0#w <;> simp [Memory.write, Memory.wfFrom, hv, ha]
  | cons c rest ih =>
    obtain ⟨b, x⟩ := c
    have h' := h
    simp only [Memory.wfFrom, Bool.and_eq_true, decide_eq_true_eq] at h'
    obtain ⟨⟨hb, hx⟩, hr⟩ := h'
    unfold Memory.write
    split
    · rename_i hab
      split
      · exact h
      · rename_i hv
        simp only [Memory.wfFrom, Bool.and_eq_true, decide_eq_true_eq]
        exact ⟨⟨ha, by simpa using hv⟩, ⟨by omega, hx⟩, hr⟩
    · split
      · split
        · exact Memory.wfFrom_mono hr (by omega)
        · rename_i hv
          simp only [Memory.wfFrom, Bool.and_eq_true, decide_eq_true_eq]
          have hab : a = b := by assumption
          exact ⟨⟨ha, by simpa using hv⟩, hab ▸ hr⟩
      · simp only [Memory.wfFrom, Bool.and_eq_true, decide_eq_true_eq]
        exact ⟨⟨hb, hx⟩, ih hr (by omega)⟩

@[simp] theorem Memory.wf_nil : Memory.wf ([] : Memory w) = true := rfl

theorem Memory.wf_write {m : Memory w} (h : Memory.wf m = true) (a : Nat) (v : BitVec w) :
    Memory.wf (Memory.write m a v) = true := Memory.wfFrom_write h (Nat.zero_le a) v

theorem Memory.within_cons {size b : Nat} {v : BitVec w} {m : Memory w} :
    Memory.within size ((b, v) :: m) = true ↔ b < size ∧ Memory.within size m = true := by
  simp [Memory.within]

/-- A write to a cell that exists lists only cells that exist. -/
theorem Memory.within_write {size : Nat} {m : Memory w} (h : Memory.within size m = true) {a : Nat} (ha : a < size)
    (v : BitVec w) : Memory.within size (Memory.write m a v) = true := by
  induction m with
  | nil => by_cases hv : v = 0#w <;> simp [Memory.write, Memory.within, hv, ha]
  | cons c rest ih =>
    obtain ⟨b, x⟩ := c
    rw [Memory.within_cons] at h
    unfold Memory.write
    repeat' split
    all_goals simp_all [Memory.within_cons]

/-- A write leaves every other cell as it was, in any list. -/
theorem Memory.read_write_other (m : Memory w) {a b : Nat} (hab : b ≠ a) (v : BitVec w) :
    Memory.read (Memory.write m a v) b = Memory.read m b := by
  induction m with
  | nil => by_cases hv : v = 0#w <;> simp [Memory.write, Memory.read, hv, hab]
  | cons c rest ih =>
    obtain ⟨d, x⟩ := c
    unfold Memory.write
    repeat' split
    all_goals simp_all [Memory.read_cons]

/-- A read after a write to the same cell gives the value written. -/
theorem Memory.read_write_same {lo : Nat} {m : Memory w} (h : Memory.wfFrom lo m = true) (a : Nat) (v : BitVec w) :
    Memory.read (Memory.write m a v) a = v := by
  induction m generalizing lo with
  | nil => by_cases hv : v = 0#w <;> simp [Memory.write, Memory.read, hv]
  | cons c rest ih =>
    obtain ⟨d, x⟩ := c
    simp only [Memory.wfFrom, Bool.and_eq_true, decide_eq_true_eq] at h
    unfold Memory.write
    split
    · rename_i had
      split
      · rename_i hv
        rw [Memory.read_cons, if_neg (by omega), Memory.read_below h.2 (by omega)]
        exact hv.symm
      · simp [Memory.read_cons]
    · split
      · rename_i hnd hd
        subst hd
        split
        · rename_i hv
          rw [Memory.read_below h.2 (by omega)]
          exact hv.symm
        · simp [Memory.read_cons]
      · rw [Memory.read_cons, if_neg (by assumption)]
        exact ih h.2

/-- The value of any cell after a write. -/
theorem Memory.read_write {m : Memory w} (h : Memory.wf m = true) (a b : Nat) (v : BitVec w) :
    Memory.read (Memory.write m a v) b = if b = a then v else Memory.read m b := by
  split
  · rename_i hb
    subst hb
    exact Memory.read_write_same h b v
  · exact Memory.read_write_other m (by assumption) v

/-- A cell outside the memory reads as unlisted. -/
theorem Memory.read_outside {size : Nat} {m : Memory w} (h : Memory.within size m = true) {a : Nat} (ha : size ≤ a) :
    Memory.read m a = 0#w := by
  induction m with
  | nil => rfl
  | cons c rest ih =>
    obtain ⟨b, v⟩ := c
    rw [Memory.within_cons] at h
    rw [Memory.read_cons, if_neg (by omega)]
    exact ih h.2

/-- Two canonical memories that read alike are the same list. -/
theorem Memory.eq_of_read_eq {lo : Nat} {m n : Memory w} (hm : Memory.wfFrom lo m = true)
    (hn : Memory.wfFrom lo n = true) (h : ∀ a, Memory.read m a = Memory.read n a) : m = n := by
  induction m generalizing lo n with
  | nil =>
    cases n with
    | nil => rfl
    | cons c rest =>
      obtain ⟨b, v⟩ := c
      simp only [Memory.wfFrom, Bool.and_eq_true, decide_eq_true_eq] at hn
      have hb := h b
      rw [Memory.read_cons, if_pos rfl] at hb
      simp [← hb] at hn
  | cons c rest ih =>
    obtain ⟨b, v⟩ := c
    have hm' := hm
    simp only [Memory.wfFrom, Bool.and_eq_true, decide_eq_true_eq] at hm'
    obtain ⟨⟨_, hv⟩, hr⟩ := hm'
    cases n with
    | nil =>
      have hb := h b
      rw [Memory.read_cons, if_pos rfl] at hb
      simp [hb] at hv
    | cons d rest' =>
      obtain ⟨b', v'⟩ := d
      have hn' := hn
      simp only [Memory.wfFrom, Bool.and_eq_true, decide_eq_true_eq] at hn'
      obtain ⟨⟨_, hv'⟩, hr'⟩ := hn'
      have hbb : b = b' := by
        rcases Nat.lt_trichotomy b b' with hlt | heq | hgt
        · exfalso
          have hb := h b
          rw [Memory.read_cons, if_pos rfl, Memory.read_cons, if_neg (by omega),
            Memory.read_below hr' (by omega)] at hb
          simp [hb] at hv
        · exact heq
        · exfalso
          have hb := h b'
          rw [Memory.read_cons, if_neg (by omega), Memory.read_cons, if_pos rfl,
            Memory.read_below hr (by omega)] at hb
          simp [← hb] at hv'
      subst hbb
      have hvv : v = v' := by
        have hb := h b
        rwa [Memory.read_cons, if_pos rfl, Memory.read_cons, if_pos rfl] at hb
      subst hvv
      have : rest = rest' := by
        refine ih hr hr' (fun a => ?_)
        by_cases hab : a = b
        · subst hab
          rw [Memory.read_below hr (by omega), Memory.read_below hr' (by omega)]
        · have ha := h a
          rwa [Memory.read_cons, if_neg hab, Memory.read_cons, if_neg hab] at ha
      rw [this]

end Sys2Proof.Machine
end

