-- ==== Sys2Proof/Laws/State.lean ====
section
/-! SUPPORT. One lemma per field for each named update of the state, so that no proof unfolds a record update. -/

namespace Sys2Proof.Machine

/-! ### State.respond -/

@[simp] theorem State.respond_cfg (s : State) (c : RespCode) (d : Word) : (s.respond c d).cfg = s.cfg := rfl
@[simp] theorem State.respond_fr (s : State) (c : RespCode) (d : Word) : (s.respond c d).fr = s.fr := rfl
@[simp] theorem State.respond_fi (s : State) (c : RespCode) (d : Word) : (s.respond c d).fi = s.fi := rfl
@[simp] theorem State.respond_fftPh (s : State) (c : RespCode) (d : Word) : (s.respond c d).fftPh = s.fftPh := rfl
@[simp] theorem State.respond_fftDone (s : State) (c : RespCode) (d : Word) : (s.respond c d).fftDone = s.fftDone := rfl
@[simp] theorem State.respond_regS (s : State) (c : RespCode) (d : Word) : (s.respond c d).regS = s.regS := rfl
@[simp] theorem State.respond_regM (s : State) (c : RespCode) (d : Word) : (s.respond c d).regM = s.regM := rfl
@[simp] theorem State.respond_regI (s : State) (c : RespCode) (d : Word) : (s.respond c d).regI = s.regI := rfl
@[simp] theorem State.respond_txbins (s : State) (c : RespCode) (d : Word) : (s.respond c d).txbins = s.txbins := rfl
@[simp] theorem State.respond_strPh (s : State) (c : RespCode) (d : Word) : (s.respond c d).strPh = s.strPh := rfl
@[simp] theorem State.respond_regCh (s : State) (c : RespCode) (d : Word) : (s.respond c d).regCh = s.regCh := rfl
@[simp] theorem State.respond_regBy (s : State) (c : RespCode) (d : Word) : (s.respond c d).regBy = s.regBy := rfl
@[simp] theorem State.respond_dr (s : State) (c : RespCode) (d : Word) : (s.respond c d).dr = s.dr := rfl
@[simp] theorem State.respond_frq (s : State) (c : RespCode) (d : Word) : (s.respond c d).frq = s.frq := rfl
@[simp] theorem State.respond_thr (s : State) (c : RespCode) (d : Word) : (s.respond c d).thr = s.thr := rfl
@[simp] theorem State.respond_tsr (s : State) (c : RespCode) (d : Word) : (s.respond c d).tsr = s.tsr := rfl
@[simp] theorem State.respond_rxq (s : State) (c : RespCode) (d : Word) : (s.respond c d).rxq = s.rxq := rfl
@[simp] theorem State.respond_ovr (s : State) (c : RespCode) (d : Word) : (s.respond c d).ovr = s.ovr := rfl
@[simp] theorem State.respond_line (s : State) (c : RespCode) (d : Word) : (s.respond c d).line = s.line := rfl
@[simp] theorem State.respond_pol (s : State) (c : RespCode) (d : Word) : (s.respond c d).pol = s.pol := rfl
@[simp] theorem State.respond_sync (s : State) (c : RespCode) (d : Word) : (s.respond c d).sync = s.sync := rfl
@[simp] theorem State.respond_out (s : State) (c : RespCode) (d : Word) : (s.respond c d).out = s.out := rfl
@[simp] theorem State.respond_fb (s : State) (c : RespCode) (d : Word) : (s.respond c d).fb = s.fb := rfl
@[simp] theorem State.respond_rxbins (s : State) (c : RespCode) (d : Word) : (s.respond c d).rxbins = s.rxbins := rfl
@[simp] theorem State.respond_rxcnt (s : State) (c : RespCode) (d : Word) : (s.respond c d).rxcnt = s.rxcnt := rfl
@[simp] theorem State.respond_rr (s : State) (c : RespCode) (d : Word) : (s.respond c d).rr = s.rr := rfl
@[simp] theorem State.respond_snkPh (s : State) (c : RespCode) (d : Word) : (s.respond c d).snkPh = s.snkPh := rfl
@[simp] theorem State.respond_col (s : State) (c : RespCode) (d : Word) : (s.respond c d).col = s.col := rfl
@[simp] theorem State.respond_rb (s : State) (c : RespCode) (d : Word) : (s.respond c d).rb = s.rb := rfl
@[simp] theorem State.respond_tickPend (s : State) (c : RespCode) (d : Word) : (s.respond c d).tickPend = s.tickPend := rfl
@[simp] theorem State.respond_miss (s : State) (c : RespCode) (d : Word) : (s.respond c d).miss = s.miss := rfl
@[simp] theorem State.respond_turns (s : State) (c : RespCode) (d : Word) : (s.respond c d).turns = s.turns := rfl
@[simp] theorem State.respond_resp (s : State) (c : RespCode) (d : Word) : (s.respond c d).resp = some (responseWord c d) := rfl

/-! ### State.enterInvocation -/

@[simp] theorem State.enterInvocation_cfg (s : State) : (s.enterInvocation).cfg = s.cfg := rfl
@[simp] theorem State.enterInvocation_fr (s : State) : (s.enterInvocation).fr = s.fr := rfl
@[simp] theorem State.enterInvocation_fi (s : State) : (s.enterInvocation).fi = s.fi := rfl
@[simp] theorem State.enterInvocation_fftPh (s : State) : (s.enterInvocation).fftPh = s.fftPh := rfl
@[simp] theorem State.enterInvocation_fftDone (s : State) : (s.enterInvocation).fftDone = s.fftDone := rfl
@[simp] theorem State.enterInvocation_regS (s : State) : (s.enterInvocation).regS = s.regS := rfl
@[simp] theorem State.enterInvocation_regM (s : State) : (s.enterInvocation).regM = s.regM := rfl
@[simp] theorem State.enterInvocation_regI (s : State) : (s.enterInvocation).regI = s.regI := rfl
@[simp] theorem State.enterInvocation_txbins (s : State) : (s.enterInvocation).txbins = s.txbins := rfl
@[simp] theorem State.enterInvocation_strPh (s : State) : (s.enterInvocation).strPh = s.strPh := rfl
@[simp] theorem State.enterInvocation_regCh (s : State) : (s.enterInvocation).regCh = s.regCh := rfl
@[simp] theorem State.enterInvocation_regBy (s : State) : (s.enterInvocation).regBy = s.regBy := rfl
@[simp] theorem State.enterInvocation_dr (s : State) : (s.enterInvocation).dr = s.dr := rfl
@[simp] theorem State.enterInvocation_frq (s : State) : (s.enterInvocation).frq = s.frq := rfl
@[simp] theorem State.enterInvocation_thr (s : State) : (s.enterInvocation).thr = s.thr := rfl
@[simp] theorem State.enterInvocation_tsr (s : State) : (s.enterInvocation).tsr = s.tsr := rfl
@[simp] theorem State.enterInvocation_rxq (s : State) : (s.enterInvocation).rxq = s.rxq := rfl
@[simp] theorem State.enterInvocation_ovr (s : State) : (s.enterInvocation).ovr = s.ovr := rfl
@[simp] theorem State.enterInvocation_line (s : State) : (s.enterInvocation).line = s.line := rfl
@[simp] theorem State.enterInvocation_pol (s : State) : (s.enterInvocation).pol = s.pol := rfl
@[simp] theorem State.enterInvocation_sync (s : State) : (s.enterInvocation).sync = s.sync := rfl
@[simp] theorem State.enterInvocation_out (s : State) : (s.enterInvocation).out = s.out := rfl
@[simp] theorem State.enterInvocation_fb (s : State) : (s.enterInvocation).fb = s.fb := rfl
@[simp] theorem State.enterInvocation_rxbins (s : State) : (s.enterInvocation).rxbins = s.rxbins := rfl
@[simp] theorem State.enterInvocation_rxcnt (s : State) : (s.enterInvocation).rxcnt = s.rxcnt := rfl
@[simp] theorem State.enterInvocation_rr (s : State) : (s.enterInvocation).rr = s.rr := rfl
@[simp] theorem State.enterInvocation_snkPh (s : State) : (s.enterInvocation).snkPh = .count := rfl
@[simp] theorem State.enterInvocation_col (s : State) : (s.enterInvocation).col = s.col := rfl
@[simp] theorem State.enterInvocation_rb (s : State) : (s.enterInvocation).rb = s.rb := rfl
@[simp] theorem State.enterInvocation_tickPend (s : State) : (s.enterInvocation).tickPend = false := rfl
@[simp] theorem State.enterInvocation_miss (s : State) : (s.enterInvocation).miss = s.miss := rfl
@[simp] theorem State.enterInvocation_turns (s : State) : (s.enterInvocation).turns = s.turns := rfl
@[simp] theorem State.enterInvocation_resp (s : State) : (s.enterInvocation).resp = s.resp := rfl

/-! ### State.endInvocation -/

@[simp] theorem State.endInvocation_cfg (s : State) : (s.endInvocation).cfg = s.cfg := rfl
@[simp] theorem State.endInvocation_fr (s : State) : (s.endInvocation).fr = s.fr := rfl
@[simp] theorem State.endInvocation_fi (s : State) : (s.endInvocation).fi = s.fi := rfl
@[simp] theorem State.endInvocation_fftPh (s : State) : (s.endInvocation).fftPh = s.fftPh := rfl
@[simp] theorem State.endInvocation_fftDone (s : State) : (s.endInvocation).fftDone = s.fftDone := rfl
@[simp] theorem State.endInvocation_regS (s : State) : (s.endInvocation).regS = s.regS := rfl
@[simp] theorem State.endInvocation_regM (s : State) : (s.endInvocation).regM = s.regM := rfl
@[simp] theorem State.endInvocation_regI (s : State) : (s.endInvocation).regI = s.regI := rfl
@[simp] theorem State.endInvocation_txbins (s : State) : (s.endInvocation).txbins = s.txbins := rfl
@[simp] theorem State.endInvocation_strPh (s : State) : (s.endInvocation).strPh = s.strPh := rfl
@[simp] theorem State.endInvocation_regCh (s : State) : (s.endInvocation).regCh = s.regCh := rfl
@[simp] theorem State.endInvocation_regBy (s : State) : (s.endInvocation).regBy = s.regBy := rfl
@[simp] theorem State.endInvocation_dr (s : State) : (s.endInvocation).dr = s.dr := rfl
@[simp] theorem State.endInvocation_frq (s : State) : (s.endInvocation).frq = s.frq := rfl
@[simp] theorem State.endInvocation_thr (s : State) : (s.endInvocation).thr = s.thr := rfl
@[simp] theorem State.endInvocation_tsr (s : State) : (s.endInvocation).tsr = s.tsr := rfl
@[simp] theorem State.endInvocation_rxq (s : State) : (s.endInvocation).rxq = s.rxq := rfl
@[simp] theorem State.endInvocation_ovr (s : State) : (s.endInvocation).ovr = s.ovr := rfl
@[simp] theorem State.endInvocation_line (s : State) : (s.endInvocation).line = s.line := rfl
@[simp] theorem State.endInvocation_pol (s : State) : (s.endInvocation).pol = s.pol := rfl
@[simp] theorem State.endInvocation_sync (s : State) : (s.endInvocation).sync = s.sync := rfl
@[simp] theorem State.endInvocation_out (s : State) : (s.endInvocation).out = s.out := rfl
@[simp] theorem State.endInvocation_fb (s : State) : (s.endInvocation).fb = s.fb := rfl
@[simp] theorem State.endInvocation_rxbins (s : State) : (s.endInvocation).rxbins = s.rxbins := rfl
@[simp] theorem State.endInvocation_rxcnt (s : State) : (s.endInvocation).rxcnt = s.rxcnt := rfl
@[simp] theorem State.endInvocation_rr (s : State) : (s.endInvocation).rr = s.rr := rfl
@[simp] theorem State.endInvocation_snkPh (s : State) : (s.endInvocation).snkPh = .idle := rfl
@[simp] theorem State.endInvocation_col (s : State) : (s.endInvocation).col = s.col := rfl
@[simp] theorem State.endInvocation_rb (s : State) : (s.endInvocation).rb = s.rb := rfl
@[simp] theorem State.endInvocation_tickPend (s : State) : (s.endInvocation).tickPend = s.tickPend := rfl
@[simp] theorem State.endInvocation_miss (s : State) : (s.endInvocation).miss = s.miss := rfl
@[simp] theorem State.endInvocation_turns (s : State) : (s.endInvocation).turns = s.turns := rfl
@[simp] theorem State.endInvocation_resp (s : State) : (s.endInvocation).resp = s.resp := rfl

/-! ### State.driveSync -/

@[simp] theorem State.driveSync_cfg (s : State) (v : Bool) : (s.driveSync v).cfg = s.cfg := rfl
@[simp] theorem State.driveSync_fr (s : State) (v : Bool) : (s.driveSync v).fr = s.fr := rfl
@[simp] theorem State.driveSync_fi (s : State) (v : Bool) : (s.driveSync v).fi = s.fi := rfl
@[simp] theorem State.driveSync_fftPh (s : State) (v : Bool) : (s.driveSync v).fftPh = s.fftPh := rfl
@[simp] theorem State.driveSync_fftDone (s : State) (v : Bool) : (s.driveSync v).fftDone = s.fftDone := rfl
@[simp] theorem State.driveSync_regS (s : State) (v : Bool) : (s.driveSync v).regS = s.regS := rfl
@[simp] theorem State.driveSync_regM (s : State) (v : Bool) : (s.driveSync v).regM = s.regM := rfl
@[simp] theorem State.driveSync_regI (s : State) (v : Bool) : (s.driveSync v).regI = s.regI := rfl
@[simp] theorem State.driveSync_txbins (s : State) (v : Bool) : (s.driveSync v).txbins = s.txbins := rfl
@[simp] theorem State.driveSync_strPh (s : State) (v : Bool) : (s.driveSync v).strPh = s.strPh := rfl
@[simp] theorem State.driveSync_regCh (s : State) (v : Bool) : (s.driveSync v).regCh = s.regCh := rfl
@[simp] theorem State.driveSync_regBy (s : State) (v : Bool) : (s.driveSync v).regBy = s.regBy := rfl
@[simp] theorem State.driveSync_dr (s : State) (v : Bool) : (s.driveSync v).dr = s.dr := rfl
@[simp] theorem State.driveSync_frq (s : State) (v : Bool) : (s.driveSync v).frq = s.frq := rfl
@[simp] theorem State.driveSync_thr (s : State) (v : Bool) : (s.driveSync v).thr = s.thr := rfl
@[simp] theorem State.driveSync_tsr (s : State) (v : Bool) : (s.driveSync v).tsr = s.tsr := rfl
@[simp] theorem State.driveSync_rxq (s : State) (v : Bool) : (s.driveSync v).rxq = s.rxq := rfl
@[simp] theorem State.driveSync_ovr (s : State) (v : Bool) : (s.driveSync v).ovr = s.ovr := rfl
@[simp] theorem State.driveSync_line (s : State) (v : Bool) : (s.driveSync v).line = s.line := rfl
@[simp] theorem State.driveSync_pol (s : State) (v : Bool) : (s.driveSync v).pol = s.pol := rfl
@[simp] theorem State.driveSync_sync (s : State) (v : Bool) : (s.driveSync v).sync = v := rfl
@[simp] theorem State.driveSync_out (s : State) (v : Bool) : (s.driveSync v).out = s.out ++ [.sync v] := rfl
@[simp] theorem State.driveSync_fb (s : State) (v : Bool) : (s.driveSync v).fb = s.fb := rfl
@[simp] theorem State.driveSync_rxbins (s : State) (v : Bool) : (s.driveSync v).rxbins = s.rxbins := rfl
@[simp] theorem State.driveSync_rxcnt (s : State) (v : Bool) : (s.driveSync v).rxcnt = s.rxcnt := rfl
@[simp] theorem State.driveSync_rr (s : State) (v : Bool) : (s.driveSync v).rr = s.rr := rfl
@[simp] theorem State.driveSync_snkPh (s : State) (v : Bool) : (s.driveSync v).snkPh = s.snkPh := rfl
@[simp] theorem State.driveSync_col (s : State) (v : Bool) : (s.driveSync v).col = s.col := rfl
@[simp] theorem State.driveSync_rb (s : State) (v : Bool) : (s.driveSync v).rb = s.rb := rfl
@[simp] theorem State.driveSync_tickPend (s : State) (v : Bool) : (s.driveSync v).tickPend = s.tickPend := rfl
@[simp] theorem State.driveSync_miss (s : State) (v : Bool) : (s.driveSync v).miss = s.miss := rfl
@[simp] theorem State.driveSync_turns (s : State) (v : Bool) : (s.driveSync v).turns = s.turns := rfl
@[simp] theorem State.driveSync_resp (s : State) (v : Bool) : (s.driveSync v).resp = s.resp := rfl

/-! ### State.shiftOut -/

@[simp] theorem State.shiftOut_cfg (s : State) (b : Byte) : (s.shiftOut b).cfg = s.cfg := rfl
@[simp] theorem State.shiftOut_fr (s : State) (b : Byte) : (s.shiftOut b).fr = s.fr := rfl
@[simp] theorem State.shiftOut_fi (s : State) (b : Byte) : (s.shiftOut b).fi = s.fi := rfl
@[simp] theorem State.shiftOut_fftPh (s : State) (b : Byte) : (s.shiftOut b).fftPh = s.fftPh := rfl
@[simp] theorem State.shiftOut_fftDone (s : State) (b : Byte) : (s.shiftOut b).fftDone = s.fftDone := rfl
@[simp] theorem State.shiftOut_regS (s : State) (b : Byte) : (s.shiftOut b).regS = s.regS := rfl
@[simp] theorem State.shiftOut_regM (s : State) (b : Byte) : (s.shiftOut b).regM = s.regM := rfl
@[simp] theorem State.shiftOut_regI (s : State) (b : Byte) : (s.shiftOut b).regI = s.regI := rfl
@[simp] theorem State.shiftOut_txbins (s : State) (b : Byte) : (s.shiftOut b).txbins = s.txbins := rfl
@[simp] theorem State.shiftOut_strPh (s : State) (b : Byte) : (s.shiftOut b).strPh = s.strPh := rfl
@[simp] theorem State.shiftOut_regCh (s : State) (b : Byte) : (s.shiftOut b).regCh = s.regCh := rfl
@[simp] theorem State.shiftOut_regBy (s : State) (b : Byte) : (s.shiftOut b).regBy = s.regBy := rfl
@[simp] theorem State.shiftOut_dr (s : State) (b : Byte) : (s.shiftOut b).dr = s.dr := rfl
@[simp] theorem State.shiftOut_frq (s : State) (b : Byte) : (s.shiftOut b).frq = s.frq := rfl
@[simp] theorem State.shiftOut_thr (s : State) (b : Byte) : (s.shiftOut b).thr = s.thr := rfl
@[simp] theorem State.shiftOut_tsr (s : State) (b : Byte) : (s.shiftOut b).tsr = s.tsr := rfl
@[simp] theorem State.shiftOut_rxq (s : State) (b : Byte) : (s.shiftOut b).rxq = s.rxq := rfl
@[simp] theorem State.shiftOut_ovr (s : State) (b : Byte) : (s.shiftOut b).ovr = s.ovr := rfl
@[simp] theorem State.shiftOut_line (s : State) (b : Byte) : (s.shiftOut b).line = s.line := rfl
@[simp] theorem State.shiftOut_pol (s : State) (b : Byte) : (s.shiftOut b).pol = s.pol := rfl
@[simp] theorem State.shiftOut_sync (s : State) (b : Byte) : (s.shiftOut b).sync = s.sync := rfl
@[simp] theorem State.shiftOut_out (s : State) (b : Byte) : (s.shiftOut b).out = s.out ++ [.pix b] := rfl
@[simp] theorem State.shiftOut_fb (s : State) (b : Byte) : (s.shiftOut b).fb = s.fb := rfl
@[simp] theorem State.shiftOut_rxbins (s : State) (b : Byte) : (s.shiftOut b).rxbins = s.rxbins := rfl
@[simp] theorem State.shiftOut_rxcnt (s : State) (b : Byte) : (s.shiftOut b).rxcnt = s.rxcnt := rfl
@[simp] theorem State.shiftOut_rr (s : State) (b : Byte) : (s.shiftOut b).rr = s.rr := rfl
@[simp] theorem State.shiftOut_snkPh (s : State) (b : Byte) : (s.shiftOut b).snkPh = s.snkPh := rfl
@[simp] theorem State.shiftOut_col (s : State) (b : Byte) : (s.shiftOut b).col = s.col := rfl
@[simp] theorem State.shiftOut_rb (s : State) (b : Byte) : (s.shiftOut b).rb = s.rb := rfl
@[simp] theorem State.shiftOut_tickPend (s : State) (b : Byte) : (s.shiftOut b).tickPend = s.tickPend := rfl
@[simp] theorem State.shiftOut_miss (s : State) (b : Byte) : (s.shiftOut b).miss = s.miss := rfl
@[simp] theorem State.shiftOut_turns (s : State) (b : Byte) : (s.shiftOut b).turns = s.turns := rfl
@[simp] theorem State.shiftOut_resp (s : State) (b : Byte) : (s.shiftOut b).resp = s.resp := rfl

/-! ### State.popTurn -/

@[simp] theorem State.popTurn_cfg (s : State) : (s.popTurn).cfg = s.cfg := rfl
@[simp] theorem State.popTurn_fr (s : State) : (s.popTurn).fr = s.fr := rfl
@[simp] theorem State.popTurn_fi (s : State) : (s.popTurn).fi = s.fi := rfl
@[simp] theorem State.popTurn_fftPh (s : State) : (s.popTurn).fftPh = s.fftPh := rfl
@[simp] theorem State.popTurn_fftDone (s : State) : (s.popTurn).fftDone = s.fftDone := rfl
@[simp] theorem State.popTurn_regS (s : State) : (s.popTurn).regS = s.regS := rfl
@[simp] theorem State.popTurn_regM (s : State) : (s.popTurn).regM = s.regM := rfl
@[simp] theorem State.popTurn_regI (s : State) : (s.popTurn).regI = s.regI := rfl
@[simp] theorem State.popTurn_txbins (s : State) : (s.popTurn).txbins = s.txbins := rfl
@[simp] theorem State.popTurn_strPh (s : State) : (s.popTurn).strPh = s.strPh := rfl
@[simp] theorem State.popTurn_regCh (s : State) : (s.popTurn).regCh = s.regCh := rfl
@[simp] theorem State.popTurn_regBy (s : State) : (s.popTurn).regBy = s.regBy := rfl
@[simp] theorem State.popTurn_dr (s : State) : (s.popTurn).dr = s.dr := rfl
@[simp] theorem State.popTurn_frq (s : State) : (s.popTurn).frq = s.frq := rfl
@[simp] theorem State.popTurn_thr (s : State) : (s.popTurn).thr = s.thr := rfl
@[simp] theorem State.popTurn_tsr (s : State) : (s.popTurn).tsr = s.tsr := rfl
@[simp] theorem State.popTurn_rxq (s : State) : (s.popTurn).rxq = s.rxq := rfl
@[simp] theorem State.popTurn_ovr (s : State) : (s.popTurn).ovr = s.ovr := rfl
@[simp] theorem State.popTurn_line (s : State) : (s.popTurn).line = s.line := rfl
@[simp] theorem State.popTurn_pol (s : State) : (s.popTurn).pol = s.pol := rfl
@[simp] theorem State.popTurn_sync (s : State) : (s.popTurn).sync = s.sync := rfl
@[simp] theorem State.popTurn_out (s : State) : (s.popTurn).out = s.out := rfl
@[simp] theorem State.popTurn_fb (s : State) : (s.popTurn).fb = s.fb := rfl
@[simp] theorem State.popTurn_rxbins (s : State) : (s.popTurn).rxbins = s.rxbins := rfl
@[simp] theorem State.popTurn_rxcnt (s : State) : (s.popTurn).rxcnt = s.rxcnt := rfl
@[simp] theorem State.popTurn_rr (s : State) : (s.popTurn).rr = s.rr := rfl
@[simp] theorem State.popTurn_snkPh (s : State) : (s.popTurn).snkPh = s.snkPh := rfl
@[simp] theorem State.popTurn_col (s : State) : (s.popTurn).col = s.col := rfl
@[simp] theorem State.popTurn_rb (s : State) : (s.popTurn).rb = s.rb := rfl
@[simp] theorem State.popTurn_tickPend (s : State) : (s.popTurn).tickPend = s.tickPend := rfl
@[simp] theorem State.popTurn_miss (s : State) : (s.popTurn).miss = s.miss := rfl
@[simp] theorem State.popTurn_turns (s : State) : (s.popTurn).turns = s.turns.tail := rfl
@[simp] theorem State.popTurn_resp (s : State) : (s.popTurn).resp = s.resp := rfl

end Sys2Proof.Machine
end

