-- ==== Sys2Proof/Laws/Ops.lean ====
section
/-! SUPPORT. For each shared operation, one lemma that says once everything it can do. -/

namespace Sys2Proof.Machine

/-! ## Outcomes -/

@[simp] theorem andThen_next {α β : Type} (a : α) (k : α → Host.Outcome β Fault Refusal) :
    andThen (.next a) k = k a := rfl

@[simp] theorem andThen_fault {α β : Type} (r : Fault) (k : α → Host.Outcome β Fault Refusal) :
    andThen (.fault r) k = .fault r := rfl

@[simp] theorem andThen_refused {α β : Type} (r : Refusal) (k : α → Host.Outcome β Fault Refusal) :
    andThen (.refused r) k = .refused r := rfl

/-- A sequence answers a next value exactly when both parts do. -/
theorem andThen_eq_next {α β : Type} {o : Host.Outcome α Fault Refusal} {k : α → Host.Outcome β Fault Refusal} {b : β} :
    andThen o k = .next b ↔ ∃ a, o = .next a ∧ k a = .next b := by
  cases o <;> simp [andThen]

theorem ackWith_eq (d : Word) (s : State) : ackWith d s = .next (s.respond .ack d) := rfl

theorem raiseNak_eq (c : RespCode) (s : State) : raiseNak c s = .next (s.respond c 0) := rfl

@[simp] theorem ackWith_eq_next {d : Word} {s t : State} : ackWith d s = .next t ↔ t = s.respond .ack d := by
  simp [ackWith, eq_comm]

@[simp] theorem raiseNak_eq_next {c : RespCode} {s t : State} : raiseNak c s = .next t ↔ t = s.respond c 0 := by
  simp [raiseNak, eq_comm]

@[simp] theorem hold_eq_next {s t : State} : hold s = .next t ↔ t = s := by simp [hold, eq_comm]

/-- A command its unit may refuse answers NAK_BUSY or goes on. -/
theorem unlessBusy_eq_next {b : Bool} {s t : State} {go : Result} :
    unlessBusy b s go = .next t ↔ (b = true ∧ t = s.respond .nakBusy 0) ∨ (b = false ∧ go = .next t) := by
  cases b <;> simp [unlessBusy]

/-- A micro-operation has its effect or holds. -/
theorem whenEnabled_eq_next {b : Bool} {s t : State} {go : Result} :
    whenEnabled b s go = .next t ↔ (b = true ∧ go = .next t) ∨ (b = false ∧ t = s) := by
  cases b <;> simp [whenEnabled]

/-- Cells that exist let the access go on. -/
theorem requireCells_eq_next {c : Config} {cells : List (Space × Nat)} {go : Result} {t : State} :
    requireCells c cells go = .next t ↔ (∀ p ∈ cells, p.2 < spaceSize c p.1) ∧ go = .next t := by
  induction cells with
  | nil => simp [requireCells]
  | cons p rest ih =>
    obtain ⟨sp, i⟩ := p
    unfold requireCells
    split <;> simp_all

theorem requireCells_of_lt {c : Config} {cells : List (Space × Nat)} {go : Result}
    (h : ∀ p ∈ cells, p.2 < spaceSize c p.1) : requireCells c cells go = go := by
  induction cells with
  | nil => rfl
  | cons p rest ih =>
    obtain ⟨sp, i⟩ := p
    unfold requireCells
    rw [if_pos (h (sp, i) (by simp))]
    exact ih (fun q hq => h q (by simp [hq]))

/-- A framebuffer command is refused with NAK_ARG or goes on. -/
theorem withFbAddr_eq_next {a : BitVec 16} {s t : State} {go : Result} :
    withFbAddr a s go = .next t ↔
      (a.toNat < s.cfg.fbSize ∧ go = .next t) ∨ (s.cfg.fbSize ≤ a.toNat ∧ t = s.respond .nakArg 0) := by
  unfold withFbAddr
  split
  · rename_i h
    simp only [h, true_and, iff_self_or, and_imp]
    omega
  · rename_i h
    simp only [h, false_and, raiseNak_eq_next, false_or, iff_and_self]
    omega

/-- Taking a byte moves the head of `RXQ` to `RXBINS[RXCNT]`, or holds on an empty queue. -/
theorem takeByte_eq_next {s t : State} {go : State → Result} :
    takeByte s go = .next t ↔
      (s.rxq = [] ∧ t = s) ∨
      ∃ b rest, s.rxq = b :: rest ∧ s.rxcnt.toNat < numBins ∧
        go { s with rxq := rest, rxbins := s.rxbins.write s.rxcnt.toNat b, rxcnt := s.rxcnt + 1 } = .next t := by
  unfold takeByte
  split
  · rename_i b rest h
    rw [requireCells_eq_next]
    simp [h, spaceSize]
  · rename_i h
    simp [h]

/-- An arriving byte is queued, or lost with `OVR` set. -/
theorem arrive_cases (b : Byte) (s : State) :
    (s.rxq.length < s.cfg.rxDepth ∧ arrive b s = { s with rxq := s.rxq ++ [b] }) ∨
    (s.cfg.rxDepth ≤ s.rxq.length ∧ arrive b s = { s with ovr := true }) := by
  unfold arrive
  split
  · exact .inl ⟨by assumption, rfl⟩
  · exact .inr ⟨by omega, rfl⟩

/-! ## The multiply as an argument (rule R13) -/

/-- With no point named, `mulfix` is its default. -/
theorem mulfix_of_no_points {c : Config} (h : c.mulPoints = []) (a b : Word) : mulfix c a b = mulfixDefault a b := by
  simp [mulfix, h]

@[simp] theorem mulfix_default (a b : Word) : mulfix Config.default a b = mulfixDefault a b := mulfix_of_no_points rfl a b

/-- The value `mulfix` takes at a pair: the first one the parameters name, or the default. -/
theorem mulfix_cases (c : Config) (a b : Word) :
    (∃ v, c.mulPoints.lookup (a, b) = some v ∧ mulfix c a b = v) ∨
    (c.mulPoints.lookup (a, b) = none ∧ mulfix c a b = mulfixDefault a b) := by
  unfold mulfix
  cases c.mulPoints.lookup (a, b) with
  | none => exact .inr ⟨rfl, rfl⟩
  | some v => exact .inl ⟨v, rfl, rfl⟩

theorem lookup_map_self {α β : Type} [BEq α] [LawfulBEq α] (g : α → β) {x : α} {l : List α} (h : x ∈ l) :
    (l.map fun y => (y, g y)).lookup x = some (g x) := by
  induction l with
  | nil => simp at h
  | cons y rest ih =>
    rcases List.mem_cons.1 h with rfl | hr
    · simp
    · by_cases hxy : x = y
      · simp [hxy]
      · rw [List.map_cons, List.lookup_cons, beq_false_of_ne hxy]
        exact ih hr

/-- The points of a function of two words: all of them. -/
def pointsOf {w : Nat} (g : BitVec w → BitVec w → BitVec w) : List ((BitVec w × BitVec w) × BitVec w) :=
  (((List.finRange (2 ^ w)).map BitVec.ofFin).product ((List.finRange (2 ^ w)).map BitVec.ofFin)).map
    fun y => (y, g y.1 y.2)

theorem lookup_pointsOf {w : Nat} (g : BitVec w → BitVec w → BitVec w) (a b : BitVec w) :
    (pointsOf g).lookup (a, b) = some (g a b) := by
  refine lookup_map_self (fun y : BitVec w × BitVec w => g y.1 y.2) (x := (a, b)) (List.mem_product.2 ⟨?_, ?_⟩)
  · exact List.mem_map.2 ⟨a.toFin, List.mem_finRange _, rfl⟩
  · exact List.mem_map.2 ⟨b.toFin, List.mem_finRange _, rfl⟩

/-- The multiply is an argument of the model: every function of two words is that of some instantiation. -/
theorem mulfix_can_be_any_function (g : Word → Word → Word) (c : Config) (a b : Word) :
    mulfix { c with mulPoints := pointsOf g } a b = g a b := by
  simp only [mulfix, lookup_pointsOf, Option.getD_some]

/-! ## Sequencer advances -/

/-- After one index of the reorder phase. -/
theorem swapAdvance_cases (s : State) :
    (s.regM = 127 ∧ swapAdvance s = { s with fftPh := .bfly, regS := 0, regM := 0, regI := 0 }) ∨
    (s.regM ≠ 127 ∧ swapAdvance s = { s with regM := s.regM + 1 }) := by
  unfold swapAdvance
  split
  · exact .inl ⟨by assumption, rfl⟩
  · exact .inr ⟨by assumption, rfl⟩

/-- After one butterfly: the next position, the next twiddle index, the next stage, or completion. -/
theorem bflyAdvance_cases (s : State) :
    (s.regI.toNat + 2 * halfSpan s.regS.toNat < 128 ∧
      bflyAdvance s = { s with regI := BitVec.ofNat 7 (s.regI.toNat + 2 * halfSpan s.regS.toNat) }) ∨
    (128 ≤ s.regI.toNat + 2 * halfSpan s.regS.toNat ∧ s.regM.toNat + 1 < halfSpan s.regS.toNat ∧
      bflyAdvance s = { s with regM := s.regM + 1, regI := s.regM + 1 }) ∨
    (128 ≤ s.regI.toNat + 2 * halfSpan s.regS.toNat ∧ halfSpan s.regS.toNat ≤ s.regM.toNat + 1 ∧
      s.regS.toNat < 6 ∧ bflyAdvance s = { s with regS := s.regS + 1, regM := 0, regI := 0 }) ∨
    (128 ≤ s.regI.toNat + 2 * halfSpan s.regS.toNat ∧ halfSpan s.regS.toNat ≤ s.regM.toNat + 1 ∧
      6 ≤ s.regS.toNat ∧
      bflyAdvance s = { s with fftPh := .idle, fftDone := true, regS := 0, regM := 0, regI := 0 }) := by
  unfold bflyAdvance
  split
  · exact .inl ⟨by assumption, rfl⟩
  · split
    · exact .inr (.inl ⟨by omega, by assumption, rfl⟩)
    · split
      · exact .inr (.inr (.inl ⟨by omega, by omega, by omega, rfl⟩))
      · exact .inr (.inr (.inr ⟨by omega, by omega, by omega, rfl⟩))

/-- After a push: the next byte of the chunk, or the next chunk, or the frame's end. -/
theorem pushAdvance_cases (s : State) :
    (s.regBy ≠ 3 ∧ pushAdvance s = { s with regBy := s.regBy + 1 }) ∨
    (s.regBy = 3 ∧ s.regCh + 1 ≠ 8 ∧
      pushAdvance s = { s with regBy := 0, regCh := s.regCh + 1, strPh := .waitrr }) ∨
    (s.regBy = 3 ∧ s.regCh + 1 = 8 ∧
      pushAdvance s = { s with regBy := 0, regCh := s.regCh + 1, strPh := .waittxc }) := by
  unfold pushAdvance
  split
  · rename_i h
    by_cases h8 : s.regCh + 1 = 8
    · exact .inr (.inr ⟨h, h8, by rw [if_pos h8]⟩)
    · exact .inr (.inl ⟨h, h8, by rw [if_neg h8]⟩)
  · exact .inl ⟨by assumption, rfl⟩

/-- After a byte of a row: the row is complete, or the next column. -/
theorem emitAdvance_cases (s : State) :
    (s.col.toNat = s.cfg.bpr - 1 ∧ emitAdvance s = { s with col := 0, snkPh := .idle }) ∨
    (s.col.toNat ≠ s.cfg.bpr - 1 ∧ emitAdvance s = { s with col := s.col + 1 }) := by
  unfold emitAdvance
  split
  · exact .inl ⟨by assumption, rfl⟩
  · exact .inr ⟨by assumption, rfl⟩

/-! ## Runs -/

theorem runAgent_zero (a : Agent) (s : State) : runAgent a 0 s = .next (s, 0) := rfl

theorem runAgent_held {a : Agent} {s : State} (h : agentEnabled a s = false) (n : Nat) :
    runAgent a n s = .next (s, 0) := by
  cases n <;> simp [runAgent, h]

theorem runAgent_succ {a : Agent} {s t : State} (h : agentEnabled a s = true) (ht : stepAgent a s = .next t) (n : Nat) :
    runAgent a (n + 1) s = andThen (runAgent a n t) fun r => .next (addSteps 1 r) := by
  simp [runAgent, h, ht]

/-- What a run answers: it took no step, or one step and a shorter run. -/
theorem runAgent_cases {a : Agent} {n : Nat} {s : State} {r : State × Nat} (h : runAgent a (n + 1) s = .next r) :
    (agentEnabled a s = false ∧ r = (s, 0)) ∨
    (agentEnabled a s = true ∧ ∃ t q, stepAgent a s = .next t ∧ runAgent a n t = .next q ∧ r = (q.1, q.2 + 1)) := by
  by_cases he : agentEnabled a s = true
  · rw [runAgent, if_pos he, andThen_eq_next] at h
    obtain ⟨t, ht, hq⟩ := h
    rw [andThen_eq_next] at hq
    obtain ⟨q, hq, hr⟩ := hq
    refine .inr ⟨he, t, q, ht, hq, ?_⟩
    simpa [addSteps, eq_comm] using hr
  · rw [runAgent, if_neg he] at h
    exact .inl ⟨by simpa using he, by simpa [eq_comm] using h⟩

/-- A property that every enabled step of an agent keeps holds after its run. -/
theorem runAgent_keeps {P : State → Prop} {a : Agent}
    (step : ∀ s t, P s → agentEnabled a s = true → stepAgent a s = .next t → P t) {n : Nat} {s : State}
    {r : State × Nat} (hs : P s) (h : runAgent a n s = .next r) : P r.1 := by
  induction n generalizing s r with
  | zero =>
    rw [runAgent_zero] at h
    injection h with h
    exact h ▸ hs
  | succ n ih =>
    rcases runAgent_cases h with ⟨-, rfl⟩ | ⟨he, t, q, ht, hq, rfl⟩
    · exact hs
    · have hp := ih (step s t hs he ht) hq
      exact hp

/-- A property that every enabled step of every agent keeps holds after a round. -/
theorem settleRound_keeps {P : State → Prop}
    (step : ∀ a s t, P s → agentEnabled a s = true → stepAgent a s = .next t → P t) {s : State} {r : State × Nat}
    (hs : P s) (h : settleRound s = .next r) : P r.1 := by
  simp only [settleRound, runNext, andThen_eq_next] at h
  obtain ⟨r1, h1, r2, ⟨q2, h2, e2⟩, r3, ⟨q3, h3, e3⟩, q4, h4, e4⟩ := h
  injection e2 with e2; injection e3 with e3; injection e4 with e4
  subst e2 e3 e4
  have p1 := runAgent_keeps (step .str) hs h1
  have p2 := runAgent_keeps (step .lnk) p1 h2
  have p3 := runAgent_keeps (step .snk) p2 h3
  have p4 := runAgent_keeps (step .fft) p3 h4
  exact p4

/-- A property that every enabled step of every agent keeps holds after a settle. -/
theorem settleRounds_keeps {P : State → Prop}
    (step : ∀ a s t, P s → agentEnabled a s = true → stepAgent a s = .next t → P t) {n : Nat} {s : State}
    {r : State × Nat} (hs : P s) (h : settleRounds n s = .next r) : P r.1 := by
  induction n generalizing s r with
  | zero =>
    rw [settleRounds] at h
    injection h with h
    exact h ▸ hs
  | succ n ih =>
    rw [settleRounds, andThen_eq_next] at h
    obtain ⟨q, hq, h⟩ := h
    have pq := settleRound_keeps step hs hq
    split at h
    · injection h with h
      exact h ▸ pq
    · rw [andThen_eq_next] at h
      obtain ⟨q', hq', h⟩ := h
      injection h with h
      subst h
      have hp := ih pq hq'
      exact hp

end Sys2Proof.Machine
end

