-- ==== Sys2Proof/Laws/PerInstr.lean ====
section
/-! SUPPORT. Laws stated instruction by instruction. -/

namespace Sys2Proof.Laws

/-- The column of rules R88 to R97 an operation stands in: a unit and operation number, or a selecting register and
its value. -/
inductive Place where
  | op (unit op : BitVec 4)
  | code (reg : PhaseReg) (value : Byte)
  deriving DecidableEq, Repr

/-- Where an encoded operation stands. -/
def placeOf (c : Code) : Place :=
  match c with
  | .word w => .op (unitField w) (opField w)
  | .phase reg code => .code reg code

/-- Where the rules put an operation. -/
def tablePlace (i : Instr) : Place :=
  match i with
  | .fftStat => .op 0x1 0
  | .fftLds _ _ => .op 0x1 1
  | .fftStart => .op 0x1 2
  | .fftRdr _ => .op 0x1 3
  | .fftRdi _ => .op 0x1 4
  | .fftRds _ => .op 0x1 5
  | .strStat => .op 0x2 0
  | .strWrb _ _ => .op 0x2 1
  | .strSend => .op 0x2 2
  | .strSetfr _ => .op 0x2 3
  | .strRdb _ => .op 0x2 4
  | .snkStat => .op 0x3 0
  | .snkRdb _ => .op 0x3 1
  | .snkRstcnt => .op 0x3 2
  | .snkRdline => .op 0x3 3
  | .snkWrfb _ _ => .op 0x3 4
  | .snkRdfb _ => .op 0x3 5
  | .evtLine => .op 0xe 1
  | .evtStep _ => .op 0xe 2
  | .evtRun _ => .op 0xe 3
  | .evtSettle => .op 0xe 4
  | .fftSwap => .code .fftPh 1
  | .fftBfly => .code .fftPh 2
  | .strWaitrr => .code .strPh 1
  | .strPush => .code .strPh 2
  | .strFin => .code .strPh 3
  | .rasSyncon => .code .snkPh 0
  | .rasCount => .code .snkPh 1
  | .rasSyncoff => .code .snkPh 2
  | .rasEmit => .code .snkPh 3
  | .rcvPoll => .code .snkPh 4
  | .rcvRd0 => .code .snkPh 5
  | .rcvRdyoff => .code .snkPh 6
  | .rcvRdn => .code .snkPh 7
  | .lnkLoad => .code .link 1
  | .lnkXfer => .code .link 2

/-- The encoding puts the operation where the rules do (rules R88 to R97). -/
def PlacedByTable.Statement (i : Instr) : Prop := placeOf (encode i) = tablePlace i

theorem PlacedByTable.fftStat : PlacedByTable.Statement .fftStat := by
  simp [PlacedByTable.Statement, placeOf, encode, tablePlace]

theorem PlacedByTable.fftLds (idx : BitVec 7) (data : Word) : PlacedByTable.Statement (.fftLds idx data) := by
  simp [PlacedByTable.Statement, placeOf, encode, tablePlace]

theorem PlacedByTable.fftStart : PlacedByTable.Statement .fftStart := by
  simp [PlacedByTable.Statement, placeOf, encode, tablePlace]

theorem PlacedByTable.fftRdr (idx : BitVec 7) : PlacedByTable.Statement (.fftRdr idx) := by
  simp [PlacedByTable.Statement, placeOf, encode, tablePlace]

theorem PlacedByTable.fftRdi (idx : BitVec 7) : PlacedByTable.Statement (.fftRdi idx) := by
  simp [PlacedByTable.Statement, placeOf, encode, tablePlace]

theorem PlacedByTable.fftRds (idx : BitVec 7) : PlacedByTable.Statement (.fftRds idx) := by
  simp [PlacedByTable.Statement, placeOf, encode, tablePlace]

theorem PlacedByTable.strStat : PlacedByTable.Statement .strStat := by
  simp [PlacedByTable.Statement, placeOf, encode, tablePlace]

theorem PlacedByTable.strWrb (idx : BitVec 5) (byte : Byte) : PlacedByTable.Statement (.strWrb idx byte) := by
  simp [PlacedByTable.Statement, placeOf, encode, tablePlace]

theorem PlacedByTable.strSend : PlacedByTable.Statement .strSend := by
  simp [PlacedByTable.Statement, placeOf, encode, tablePlace]

theorem PlacedByTable.strSetfr (bit : Bool) : PlacedByTable.Statement (.strSetfr bit) := by
  simp [PlacedByTable.Statement, placeOf, encode, tablePlace]

theorem PlacedByTable.strRdb (idx : BitVec 5) : PlacedByTable.Statement (.strRdb idx) := by
  simp [PlacedByTable.Statement, placeOf, encode, tablePlace]

theorem PlacedByTable.snkStat : PlacedByTable.Statement .snkStat := by
  simp [PlacedByTable.Statement, placeOf, encode, tablePlace]

theorem PlacedByTable.snkRdb (idx : BitVec 5) : PlacedByTable.Statement (.snkRdb idx) := by
  simp [PlacedByTable.Statement, placeOf, encode, tablePlace]

theorem PlacedByTable.snkRstcnt : PlacedByTable.Statement .snkRstcnt := by
  simp [PlacedByTable.Statement, placeOf, encode, tablePlace]

theorem PlacedByTable.snkRdline : PlacedByTable.Statement .snkRdline := by
  simp [PlacedByTable.Statement, placeOf, encode, tablePlace]

theorem PlacedByTable.snkWrfb (addr : BitVec 16) (byte : Byte) : PlacedByTable.Statement (.snkWrfb addr byte) := by
  simp [PlacedByTable.Statement, placeOf, encode, tablePlace]

theorem PlacedByTable.snkRdfb (addr : BitVec 16) : PlacedByTable.Statement (.snkRdfb addr) := by
  simp [PlacedByTable.Statement, placeOf, encode, tablePlace]

theorem PlacedByTable.evtLine : PlacedByTable.Statement .evtLine := by
  simp [PlacedByTable.Statement, placeOf, encode, tablePlace]

theorem PlacedByTable.evtStep (a : Agent) : PlacedByTable.Statement (.evtStep a) := by
  simp [PlacedByTable.Statement, placeOf, encode, tablePlace]

theorem PlacedByTable.evtRun (a : Agent) : PlacedByTable.Statement (.evtRun a) := by
  simp [PlacedByTable.Statement, placeOf, encode, tablePlace]

theorem PlacedByTable.evtSettle : PlacedByTable.Statement .evtSettle := by
  simp [PlacedByTable.Statement, placeOf, encode, tablePlace]

theorem PlacedByTable.fftSwap : PlacedByTable.Statement .fftSwap := rfl

theorem PlacedByTable.fftBfly : PlacedByTable.Statement .fftBfly := rfl

theorem PlacedByTable.strWaitrr : PlacedByTable.Statement .strWaitrr := rfl

theorem PlacedByTable.strPush : PlacedByTable.Statement .strPush := rfl

theorem PlacedByTable.strFin : PlacedByTable.Statement .strFin := rfl

theorem PlacedByTable.rasSyncon : PlacedByTable.Statement .rasSyncon := rfl

theorem PlacedByTable.rasCount : PlacedByTable.Statement .rasCount := rfl

theorem PlacedByTable.rasSyncoff : PlacedByTable.Statement .rasSyncoff := rfl

theorem PlacedByTable.rasEmit : PlacedByTable.Statement .rasEmit := rfl

theorem PlacedByTable.rcvPoll : PlacedByTable.Statement .rcvPoll := rfl

theorem PlacedByTable.rcvRd0 : PlacedByTable.Statement .rcvRd0 := rfl

theorem PlacedByTable.rcvRdyoff : PlacedByTable.Statement .rcvRdyoff := rfl

theorem PlacedByTable.rcvRdn : PlacedByTable.Statement .rcvRdn := rfl

theorem PlacedByTable.lnkLoad : PlacedByTable.Statement .lnkLoad := rfl

theorem PlacedByTable.lnkXfer : PlacedByTable.Statement .lnkXfer := rfl

end Sys2Proof.Laws
end

