-- ==== Sys2Proof/Laws/Run.lean ====
section
/-! SUPPORT. Runs: one lemma for each term that rule R281's premises are stated in. -/

namespace Sys2Proof.Machine

theorem nextState_of_step {s t : State} (h : step s = .next t) : nextState s = t := by simp [nextState, h]

@[simp] theorem stateAt_zero (s : State) : stateAt s 0 = s := rfl

@[simp] theorem stateAt_succ (s : State) (k : Nat) : stateAt s (k + 1) = nextState (stateAt s k) := rfl

/-- A property that every step keeps holds in every state of a run. -/
theorem stateAt_keeps {P : State → Prop} (keeps : ∀ s t, P s → step s = .next t → P t) {s : State} (hs : P s) (k : Nat) :
    P (stateAt s k) := by
  induction k with
  | zero => exact hs
  | succ k ih =>
    rw [stateAt_succ]
    unfold nextState
    split
    · exact keeps _ _ ih (by assumption)
    · exact ih
    · exact ih

@[simp] theorem stepsWith_zero (p : State → Bool) (s : State) : stepsWith p s 0 = 0 := rfl

/-- One step more counts if its state satisfies the predicate. -/
theorem stepsWith_succ (p : State → Bool) (s : State) (n : Nat) :
    stepsWith p s (n + 1) = stepsWith p s n + if p (stateAt s n) = true then 1 else 0 := by
  simp [stepsWith, List.range_succ, List.countP_append, List.countP_cons]

/-- Strictly between two points of a run. -/
theorem someBetween_eq_true {p : State → Bool} {s : State} {i j : Nat} :
    someBetween p s i j = true ↔ ∃ k, i < k ∧ k < j ∧ p (stateAt s k) = true := by
  simp only [someBetween, List.any_eq_true, List.mem_range]
  constructor
  · rintro ⟨k, hk, hp⟩
    exact ⟨i + 1 + k, by omega, by omega, hp⟩
  · rintro ⟨k, h1, h2, hp⟩
    exact ⟨k - (i + 1), by omega, by rwa [Nat.add_sub_cancel' (by omega)]⟩

/-- An agent's turn is its own, or the word EVT.STEP. -/
theorem turnAgent_eq_some {t : Turn} {a : Agent} :
    turnAgent t = some a ↔ t = .agent a ∨ ∃ w, t = .word w ∧ decode (.word w) = .ok (.evtStep a) := by
  cases t with
  | agent b => simp [turnAgent]
  | word w =>
    simp only [turnAgent, reduceCtorEq, Turn.word.injEq, false_or]
    split
    · rename_i b h
      simp [h]
    · rename_i h
      simp only [reduceCtorEq, exists_eq_left', false_iff]
      exact h a

end Sys2Proof.Machine
end

