-- ==== Sys2Proof/Tests/Slice0.lean ====
section
/-! SUPPORT. Tests with expected results from the spec's examples and vectors (each names its source), and one witness for
the hypotheses of each statement that has any, clause by clause at a boundary value. -/

namespace Sys2Proof.Tests

open Sys2Proof Sys2Proof.Machine

/-- The state a meaning answers, the reset state where it answers none. -/
def after (r : Result) : State :=
  match r with
  | .next t => t
  | .fault _ => State.reset
  | .refused _ => State.reset

/-! ## WellFormed smoke: each check refuses an ill-formed term -/

theorem test_default_valid : Config.default.valid = true := by decide +kernel

theorem test_refuses_first_line_below_window :
    { Config.default with visTop := 0, visBot := 200 }.valid = false := by decide

theorem test_refuses_empty_window : { Config.default with visTop := 132, visBot := 132 }.valid = false := by decide

theorem test_refuses_window_past_vsync : { Config.default with vsStart := 231 }.valid = false := by decide

theorem test_refuses_empty_vsync : { Config.default with vsEnd := 248 }.valid = false := by decide

theorem test_refuses_vsync_past_wrap : { Config.default with vsEnd := 263 }.valid = false := by decide

theorem test_refuses_wrap_past_nine_bits :
    { Config.default with lineFirst := 1, visTop := 101, visBot := 412, wrapAt := 512, vsStart := 420, vsEnd := 430 }.valid = false := by
  decide

theorem test_refuses_asymmetric_margins : { Config.default with visTop := 33 }.valid = false := by decide

theorem test_refuses_too_few_blanking_lines :
    { Config.default with visTop := 4, visBot := 245, vsStart := 245, vsEnd := 246, wrapAt := 248 }.valid = false := by
  decide

theorem test_refuses_empty_row : { Config.default with bpr := 0 }.valid = false := by decide

theorem test_refuses_wide_row : { Config.default with bpr := 256 }.valid = false := by decide

theorem test_refuses_empty_queue : { Config.default with rxDepth := 0 }.valid = false := by decide

theorem test_refuses_short_sine_table : { Config.default with sin := sinTable.take 127 }.valid = false := by decide +kernel

theorem test_refuses_address_past_framebuffer :
    (Instr.snkWrfb 4000 0).wf Config.default = false ∧ (Instr.snkRdfb 4000).wf Config.default = false ∧
      (Instr.snkWrfb 3999 0).wf Config.default = true ∧ (Instr.snkRdfb 3999).wf Config.default = true := by decide

/-! ## Decoding: a word of every constructor, from the tables of rules R88 to R97 -/

theorem test_decode_fft :
    decode (.word 0x10000000) = .ok .fftStat ∧ decode (.word 0x1105FED4) = .ok (.fftLds 5 0xFED4) ∧
    decode (.word 0x12000000) = .ok .fftStart ∧ decode (.word 0x137F0000) = .ok (.fftRdr 127) ∧
    decode (.word 0x14070000) = .ok (.fftRdi 7) ∧ decode (.word 0x15200000) = .ok (.fftRds 32) := by
  refine ⟨rfl, rfl, rfl, rfl, rfl, rfl⟩

theorem test_decode_str :
    decode (.word 0x20000000) = .ok .strStat ∧ decode (.word 0x2103002A) = .ok (.strWrb 3 0x2A) ∧
    decode (.word 0x22000000) = .ok .strSend ∧ decode (.word 0x23000001) = .ok (.strSetfr true) ∧
    decode (.word 0x23000000) = .ok (.strSetfr false) ∧ decode (.word 0x24030000) = .ok (.strRdb 3) := by
  refine ⟨rfl, rfl, rfl, rfl, rfl, rfl⟩

theorem test_decode_snk :
    decode (.word 0x30000000) = .ok .snkStat ∧ decode (.word 0x31080000) = .ok (.snkRdb 8) ∧
    decode (.word 0x32000000) = .ok .snkRstcnt ∧ decode (.word 0x33000000) = .ok .snkRdline ∧
    decode (.word 0x340027A5) = .ok (.snkWrfb 39 0xA5) ∧ decode (.word 0x35002700) = .ok (.snkRdfb 39) := by
  refine ⟨rfl, rfl, rfl, rfl, rfl, rfl⟩

theorem test_decode_evt :
    decode (.word 0xE1000000) = .ok .evtLine ∧ decode (.word 0xE2030000) = .ok (.evtStep .snk) ∧
    decode (.word 0xE2040000) = .ok (.evtStep .lnk) ∧ decode (.word 0xE3010000) = .ok (.evtRun .fft) ∧
    decode (.word 0xE3020000) = .ok (.evtRun .str) ∧ decode (.word 0xE4000000) = .ok .evtSettle := by
  refine ⟨rfl, rfl, rfl, rfl, rfl, rfl⟩

theorem test_decode_fft_and_str_phases :
    decode (.phase .fftPh 1) = .ok .fftSwap ∧ decode (.phase .fftPh 2) = .ok .fftBfly ∧
    decode (.phase .strPh 1) = .ok .strWaitrr ∧ decode (.phase .strPh 2) = .ok .strPush ∧
    decode (.phase .strPh 3) = .ok .strFin := by
  refine ⟨rfl, rfl, rfl, rfl, rfl⟩

theorem test_decode_snk_phases :
    decode (.phase .snkPh 0) = .ok .rasSyncon ∧ decode (.phase .snkPh 1) = .ok .rasCount ∧
    decode (.phase .snkPh 2) = .ok .rasSyncoff ∧ decode (.phase .snkPh 3) = .ok .rasEmit ∧
    decode (.phase .snkPh 4) = .ok .rcvPoll ∧ decode (.phase .snkPh 5) = .ok .rcvRd0 ∧
    decode (.phase .snkPh 6) = .ok .rcvRdyoff ∧ decode (.phase .snkPh 7) = .ok .rcvRdn := by
  refine ⟨rfl, rfl, rfl, rfl, rfl, rfl, rfl, rfl⟩

theorem test_decode_link :
    decode (.phase .link 1) = .ok .lnkLoad ∧ decode (.phase .link 2) = .ok .lnkXfer ∧
    decode (.phase .link 3) = .ok .lnkXfer ∧ decode (.phase .link 0) = .error .noMicroOp := by
  refine ⟨rfl, rfl, rfl, rfl⟩

/-- Reserved and ill-formed words of V-CMD-1 and rule R100. -/
theorem test_decode_rejects :
    decode (.word 0x11800001) = .error .indexRange ∧ decode (.word 0x13000001) = .error .fieldNotZero ∧
    decode (.word 0x16000000) = .error .reservedOp ∧ decode (.word 0x00000000) = .error .reservedUnit ∧
    decode (.word 0x2103012A) = .error .dataRange ∧ decode (.word 0x23000002) = .error .dataRange ∧
    decode (.word 0xE2050000) = .error .agentRange ∧ decode (.word 0x35002701) = .error .fieldNotZero := by
  refine ⟨rfl, rfl, rfl, rfl, rfl, rfl, rfl, rfl⟩

/-! ## Arithmetic (vectors V-PRM-1 to V-PRM-7) -/

theorem test_mulfix :
    mulfix Config.default 0x0180 0xFE80 = 0xFDC0 ∧ mulfix Config.default 0xFFF1 0x0010 = 0xFFFF ∧
    mulfix Config.default 0x8000 0x7FFF = 0x0080 ∧ mulfix Config.default 0xFFA6 0x4000 = 0xE980 := by decide

/-- A build whose multiply truncates toward zero at one pair (rule R13): the parameter reaches the butterfly. -/
theorem test_mulfix_parameter :
    let c : Config := { Config.default with mulPoints := [((0x0080, 0xFFFF), 0)] }
    c.valid = true ∧ mulfix c 0x0080 0xFFFF = 0 ∧ mulfix c 0x0080 0xFFFE = 0xFFFF ∧
    (after (exec .fftBfly { State.resetWith c with fftPh := .bfly, fr := [(1, 0xFFFF)] })).fr = [] ∧
    (after (exec .fftBfly { State.reset with fftPh := .bfly, fr := [(1, 0xFFFF)] })).fr = [(0, 0xFFFF), (1, 1)] := by
  decide +kernel

theorem test_add_sub_neg :
    add16 0x8000 0xFFFF = 0x7FFF ∧ sub16 0x7FFF 0xFFFF = 0x8000 ∧ neg16 0x7FFF = 0x8001 ∧ asr1 0x8001 = 0xC000 := by
  decide

theorem test_rev7 : rev7 100 = 19 ∧ rev7 6 = 48 ∧ rev7 126 = 63 := by decide

theorem test_twiddle :
    twiddleRe Config.default 8 = 0x0076 ∧ twiddleIm Config.default 8 = 0xFFD0 ∧
    twiddleRe Config.default 33 = 0xFFFA ∧ twiddleIm Config.default 33 = 0xFF81 := by decide

theorem test_fix : Machine.fix (-314159 / 100000) = 0xFCDC ∧ Machine.fix (999 / 1000) = 0x00FF := by
  constructor <;> decide +kernel

/-! ## Commands -/

/-- Rule R121's example, and FFT.RDR, FFT.RDI after it (V-CMD-1). -/
theorem test_fftLds : (after (exec (.fftLds 5 0xFED4) { State.reset with fi := [(5, 7)], fftDone := true })).fr =
    [(5, 0xFED4)] ∧
    (after (exec (.fftLds 5 0xFED4) { State.reset with fi := [(5, 7)], fftDone := true })).fi = [] := by decide

theorem test_fftRdr : (after (exec (.fftRdr 5) { State.reset with fr := [(5, 0xFED4)] })).resp = some 0x0000FED4 := by
  decide

theorem test_fftRdi : (after (exec (.fftRdi 5) { State.reset with fi := [(5, 0xFED4)] })).resp = some 0x0000FED4 := by
  decide

/-- V-CMD-1: FFT.RDS 96. -/
theorem test_fftRds : (after (exec (.fftRds 96) State.reset)).resp = some 0x0000FF80 := by decide

/-- Rule R120: between FFT.START and completion the answer is 0x0001. -/
theorem test_fftStart_then_stat : (after (exec .fftStat (after (exec .fftStart State.reset)))).resp = some 0x00000001 := by
  decide

/-- V-CMD-1: FFT.START while busy. -/
theorem test_fftStart_busy : (after (exec .fftStart { State.reset with fftPh := .bfly })).resp = some 0x00010000 := by
  decide

/-- Rule R142's example, read back by rule R145's. -/
theorem test_strWrb_strRdb :
    (after (exec (.strRdb 3) (after (exec (.strWrb 3 0x2A) State.reset)))).resp = some 0x0000002A := by decide

/-- Rule R141's examples: after reset, and directly after STR.SEND. -/
theorem test_strStat : (after (exec .strStat State.reset)).resp = some 0x00000018 ∧
    (after (exec .strStat (after (exec .strSend State.reset)))).resp = some 0x0000001B := by decide

/-- Rule R144's example: SNK.STAT then shows bit 8. -/
theorem test_strSetfr_snkStat :
    (after (exec .snkStat (after (exec (.strSetfr true) State.reset)))).resp = some 0x00000100 := by decide

/-- Rule R196's example. -/
theorem test_snkRdb : (after (exec (.snkRdb 8) { State.reset with rxbins := [(8, 0x5C)] })).resp = some 0x0000005C := by
  decide

/-- Rule R197's examples. -/
theorem test_snkRstcnt : (after (exec .snkRstcnt { State.reset with rxcnt := 32 })).rxcnt = 0 ∧
    (after (exec .snkRstcnt { State.reset with rxcnt := 12 })).resp = some 0x00030000 ∧
    (after (exec .snkRstcnt { State.reset with rxcnt := 12 })).rxcnt = 12 := by decide

/-- Rule R198's example. -/
theorem test_snkRdline : (after (exec .snkRdline State.reset)).resp = some 0x00000106 := by decide

/-- Rules R199 and R200's examples. -/
theorem test_snkWrfb_snkRdfb :
    (after (exec (.snkRdfb 39) (after (exec (.snkWrfb 39 0xA5) State.reset)))).resp = some 0x000000A5 := by decide

/-- Rule R242's examples of priority. -/
theorem test_refusal_priority :
    (after (step { State.reset with turns := [.word 0x32000001], snkPh := .rpoll, rxcnt := 5 })).resp = some 0x00020000 ∧
    (after (step { State.reset with turns := [.word 0x32000000], snkPh := .rpoll, rxcnt := 5 })).resp = some 0x00010000 ∧
    (after (step { State.reset with turns := [.word 0x32000000], rxcnt := 5 })).resp = some 0x00030000 := by decide

/-! ## Events -/

/-- Rule R181's example. -/
theorem test_evtLine : (after (exec .evtLine State.reset)).tickPend = true ∧ (after (exec .evtLine State.reset)).miss = false ∧
    (after (exec .evtLine (after (exec .evtLine State.reset)))).miss = true := by decide

/-- Rule R92's example. -/
theorem test_evtStep : (after (step { State.reset with turns := [.word 0xE2030000] })).resp = some 0 ∧
    (after (exec (.evtStep .snk) { State.reset with tickPend := true })).snkPh = .count := by decide

/-- A Streamer holding in WAITRR with `RR = 1` and an empty `THR` takes two steps and holds (rules R147, R148). -/
theorem test_evtRun : (after (exec (.evtRun .str) { State.reset with strPh := .waitrr, dr := true, rr := true })).resp =
    some 0x00000002 := by decide

/-- Nothing is enabled after reset (rule R94). -/
theorem test_evtSettle : (after (exec .evtSettle State.reset)).resp = some 0x00000000 := by decide

/-! ## FFT micro-operations -/

/-- Rule R126's examples. -/
theorem test_fftSwap :
    (after (exec .fftSwap { State.reset with fftPh := .reorder, regM := 1, fr := [(1, 0x0011), (64, 0x0022)] })).fr =
      [(1, 0x0022), (64, 0x0011)] ∧
    (after (exec .fftSwap { State.reset with fftPh := .reorder, regM := 64, fr := [(1, 0x0011), (64, 0x0022)] })).fr =
      [(1, 0x0011), (64, 0x0022)] := by decide

/-- V-BFY-1, row 6. -/
theorem test_fftBfly :
    (after (exec .fftBfly
      { State.reset with
        fftPh := .bfly, regS := 3, regM := 5, regI := 5, fr := [(5, 0x1234), (13, 0x0ABC)]
        fi := [(5, 0xF00D), (13, 0x0123)] })).fr = [(5, 0x079D), (13, 0x0A97)] ∧
    (after (exec .fftBfly
      { State.reset with
        fftPh := .bfly, regS := 3, regM := 5, regI := 5, fr := [(5, 0x1234), (13, 0x0ABC)]
        fi := [(5, 0xF00D), (13, 0x0123)] })).fi = [(5, 0xF2DC), (13, 0xFD30)] := by decide

/-- V-BFY-1, row 9: the last butterfly, whose additions wrap. -/
theorem test_fftBfly_last :
    let t := after (exec .fftBfly
      { State.reset with
        fftPh := .bfly, regS := 6, regM := 63, regI := 63, fr := [(63, 0x7FFF), (127, 0x8000)]
        fi := [(63, 0x8000), (127, 0x7FFF)] })
    t.fr = [(63, 0x827F), (127, 0xFD7F)] ∧ t.fi = [(63, 0x8380), (127, 0xFC80)] ∧ t.fftPh = .idle ∧ t.fftDone = true := by
  decide

/-! ## Framer micro-operations -/

/-- Rule R147's example. -/
theorem test_strWaitrr : (after (exec .strWaitrr { State.reset with strPh := .waitrr, rr := true })).strPh = .push ∧
    (after (exec .strWaitrr { State.reset with strPh := .waitrr })).strPh = .waitrr := by decide

/-- Rule R148's example. -/
theorem test_strPush :
    let t := after (exec .strPush { State.reset with strPh := .push, regCh := 2, regBy := 3, txbins := [(11, 0x5C)] })
    t.thr = some 0x5C ∧ t.regCh = 3 ∧ t.regBy = 0 ∧ t.strPh = .waitrr := by decide

/-- Rule R149's example. -/
theorem test_strFin : (after (exec .strFin { State.reset with strPh := .waittxc, dr := true })).dr = false ∧
    (after (exec .strFin { State.reset with strPh := .waittxc, dr := true })).strPh = .idle := by decide

/-- Rule R150's example. -/
theorem test_lnkLoad : (after (exec .lnkLoad { State.reset with thr := some 0x5C })).tsr = some 0x5C ∧
    (after (exec .lnkLoad { State.reset with thr := some 0x5C })).thr = none := by decide

/-- Rule R151's examples. -/
theorem test_lnkXfer :
    (after (exec .lnkXfer { State.reset with rxq := [0x11, 0x22], tsr := some 0x33 })).rxq = [0x11, 0x22] ∧
    (after (exec .lnkXfer { State.reset with rxq := [0x11, 0x22], tsr := some 0x33 })).ovr = true ∧
    (after (exec .lnkXfer { State.reset with rxq := [0x11], tsr := some 0x33 })).rxq = [0x11, 0x33] := by decide

/-- Rule R154's example. -/
theorem test_rcvPoll : (after (exec .rcvPoll { State.reset with snkPh := .rpoll, dr := true, rxcnt := 8 })).rr = true ∧
    (after (exec .rcvPoll { State.reset with snkPh := .rpoll, dr := true, rxcnt := 32 })).snkPh = .idle := by decide

/-- Rule R155's example. -/
theorem test_rcvRd0 :
    let t := after (exec .rcvRd0 { State.reset with snkPh := .rrd0, rxcnt := 8, rxq := [0x5C], rr := true })
    t.rxbins = [(8, 0x5C)] ∧ t.rxcnt = 9 ∧ t.rb = 1 ∧ t.rxq = [] ∧ t.snkPh = .rrdyoff := by decide

/-- Rule R156's example. -/
theorem test_rcvRdyoff : (after (exec .rcvRdyoff { State.reset with snkPh := .rrdyoff, rr := true })).rr = false ∧
    (after (exec .rcvRdyoff { State.reset with snkPh := .rrdyoff, rr := true })).snkPh = .rrdn := by decide

/-- Rule R157's example. -/
theorem test_rcvRdn :
    let t := after (exec .rcvRdn { State.reset with snkPh := .rrdn, rxcnt := 11, rb := 3, rxq := [0x07] })
    t.rxbins = [(11, 0x07)] ∧ t.rxcnt = 12 ∧ t.rb = 0 ∧ t.snkPh = .idle := by decide

/-! ## Raster micro-operations -/

/-- Rule R182's example. -/
theorem test_rasSyncon : (after (exec .rasSyncon { State.reset with tickPend := true })).out = [.sync false] ∧
    (after (exec .rasSyncon { State.reset with tickPend := true })).tickPend = false := by decide

/-- Rule R183's examples. -/
theorem test_rasCount :
    (after (exec .rasCount { State.reset with snkPh := .count, line := 247 })).pol = true ∧
    (after (exec .rasCount { State.reset with snkPh := .count, line := 250, pol := true })).pol = false ∧
    (after (exec .rasCount { State.reset with snkPh := .count })).line = 1 ∧
    (after (exec .rasCount { State.reset with snkPh := .count, line := 31 })).line = 32 := by decide

/-- Rule R184's examples. -/
theorem test_rasSyncoff :
    (after (exec .rasSyncoff { State.reset with snkPh := .syncoff, line := 32 })).snkPh = .emit ∧
    (after (exec .rasSyncoff { State.reset with snkPh := .syncoff, line := 249, pol := true })).out = [.sync false] ∧
    (after (exec .rasSyncoff { State.reset with snkPh := .syncoff, line := 249, pol := true })).snkPh = .rpoll := by decide

/-- Rule R185's example. -/
theorem test_rasEmit :
    let t := after (exec .rasEmit { State.reset with snkPh := .emit, line := 33, col := 19, fb := [(39, 0xA5)] })
    t.out = [.pix 0xA5] ∧ t.col = 0 ∧ t.snkPh = .idle := by decide

/-! ## The placed instruction runs first -/

theorem test_withFetchWord : (after (step (State.reset.withFetchWord 32 0x33000000))).resp = some 0x00000106 ∧
    (after (step (State.reset.withFetchWord 8 0))).snkPh = .count := by decide

/-! ## Witnesses: the hypotheses of each statement are met, clause by clause -/

/-- The invariant as a Bool, part by part. -/
def machineOkCheck (s : State) : Bool :=
  s.cfg.valid && decide (MemoriesOk s) && decide (FftOk s) && decide (StreamerOk s) && decide (ReceiverOk s) &&
    decide (RasterOk s) && decide (ResponseOk s)

theorem machineOk_of {s : State} (h : machineOkCheck s = true) : MachineOk s := by
  simp only [machineOkCheck, Bool.and_eq_true, decide_eq_true_eq] at h
  obtain ⟨⟨⟨⟨⟨⟨h1, h2⟩, h3⟩, h4⟩, h5⟩, h6⟩, h7⟩ := h
  exact ⟨h1, h2, h3, h4, h5, h6, h7⟩

/-- The default machine in the last butterfly. -/
def inLastButterfly : State := { State.reset with fftPh := .bfly, regS := 6, regM := 63, regI := 63 }

/-- The default machine with the Streamer waiting at the start of a frame. -/
def frameBegun : State := { State.reset with strPh := .waitrr, dr := true }

/-- The default machine with the Streamer at the last byte of the frame. -/
def atLastPush : State := { State.reset with strPh := .push, dr := true, regCh := 7, regBy := 3 }

/-- The default machine holding in RCV.RD0 for a first byte, with the last chunk still to come. -/
def atLastRd0 : State := { State.reset with snkPh := .rrd0, rr := true, rxcnt := 28, rxq := [0x5C], line := 1 }

/-- The default machine about to read the last byte of a frame. -/
def atLastRdn : State := { State.reset with snkPh := .rrdn, rxcnt := 31, rb := 3, rxq := [0x07], line := 262 }

/-- The default machine at the last byte of the last visible row. -/
def atLastEmit : State := { State.reset with snkPh := .emit, line := 231, col := 19 }

/-- The default machine with a tick pending and a line last started. -/
def tickAt (l : BitVec 9) (region : Bool) : State :=
  { State.reset with tickPend := true, line := l, pol := region, sync := !region }

/-- The mutual stall after a lost byte. -/
def bothStalled : State :=
  { State.reset with
    snkPh := .rrdn, rxcnt := 3, rb := 3, strPh := .waitrr, regCh := 1, dr := true, ovr := true, line := 1 }

theorem witness_reset_ok : MachineOk State.reset := machineOk_of (by decide +kernel)

theorem witness_AcceptedCodesEncodeBack :
    decode (.word 0x117FFFFF) = .ok (.fftLds 127 0xFFFF) ∧ decode (.phase .link 3) = .ok .lnkXfer := ⟨rfl, rfl⟩

theorem witness_PhaseCodesSelectTheMicroOperation :
    (State.reset.snkPh = .idle ∧ State.reset.tickPend = false) ∧ agentEnabled .lnk State.reset = false := by decide

theorem witness_StepTakesTheFirstTurn :
    State.reset.turns = [] ∧
    ({ State.reset with turns := [.word 0xE4000000] }.turns = .word 0xE4000000 :: [] ∧
      decode (.word 0xE4000000) = .ok .evtSettle) ∧
    ({ State.reset with turns := [.agent .snk] }.turns = .agent .snk :: [] ∧
      decode (agentCode .snk { State.reset with turns := [.agent .snk] }) = .ok .rasSyncon) ∧
    ({ State.reset with turns := [.word 0xE5000000] }.turns = .word 0xE5000000 :: [] ∧
      decode (.word 0xE5000000) = .error .reservedOp) ∧
    ({ State.reset with turns := [.agent .lnk] }.turns = .agent .lnk :: [] ∧
      decode (agentCode .lnk { State.reset with turns := [.agent .lnk] }) = .error .noMicroOp) :=
  ⟨rfl, ⟨rfl, rfl⟩, ⟨rfl, rfl⟩, ⟨rfl, rfl⟩, ⟨rfl, rfl⟩⟩

/-- The four codes are each the expected one of some word and state. -/
theorem witness_PortWordsAreAnswered :
    MachineOk { State.reset with turns := [.word 0x350FA000] } ∧
    expectedCode 0x350FA000 State.reset = .nakArg ∧ expectedCode 0x350F9F00 State.reset = .ack ∧
    expectedCode 0x350F9F00 atLastEmit = .nakBusy ∧ expectedCode 0x32000000 State.reset = .nakState := by
  refine ⟨machineOk_of (by decide +kernel), ?_⟩
  decide

theorem witness_StatusWords :
    (unitField 0x1000FFFF = 0x1 ∧ opField 0x1000FFFF = 0) ∧ (unitField 0x20000000 = 0x2 ∧ opField 0x20000000 = 0) ∧
    (unitField 0x30010000 = 0x3 ∧ opField 0x30010000 = 0) ∧ State.reset.snkPh = .idle ∧ atLastEmit.snkPh ≠ .idle := by
  decide

theorem witness_FftLoadSample :
    (unitField 0x117F0000 = 0x1 ∧ opField 0x117F0000 = 1 ∧ (idxField 0x117F0000).toNat = 127) ∧
    (unitField 0x11800000 = 0x1 ∧ opField 0x11800000 = 1 ∧ (idxField 0x11800000).toNat = 128) ∧
    (MemoriesOk { State.reset with fr := [(127, 1)] } ∧ { State.reset with fr := [(127, 1)] }.fftPh = .idle) ∧
    inLastButterfly.fftPh ≠ .idle := by decide

theorem witness_FftStartBeginsReorder :
    (unitField 0x12000001 = 0x1 ∧ opField 0x12000001 = 2) ∧ State.reset.fftPh = .idle ∧ inLastButterfly.fftPh ≠ .idle := by
  decide

theorem witness_FftReads :
    (unitField 0x137F0000 = 0x1 ∧ opField 0x137F0000 = 3) ∧ (unitField 0x14800000 = 0x1 ∧ opField 0x14800000 = 4) ∧
    (unitField 0x157F0001 = 0x1 ∧ opField 0x157F0001 = 5) ∧ State.reset.fftPh = .idle ∧ inLastButterfly.fftPh ≠ .idle := by
  decide

theorem witness_StreamerBinsWriteAndRead :
    (unitField 0x211F00FF = 0x2 ∧ opField 0x211F00FF = 1) ∧ (unitField 0x24200000 = 0x2 ∧ opField 0x24200000 = 4) ∧
    (MemoriesOk { State.reset with txbins := [(31, 1)] } ∧ { State.reset with txbins := [(31, 1)] }.strPh = .idle) ∧
    atLastPush.strPh ≠ .idle := by decide

theorem witness_SendStartsAFrame :
    (unitField 0x22000001 = 0x2 ∧ opField 0x22000001 = 2) ∧ State.reset.strPh = .idle ∧ atLastPush.strPh ≠ .idle := by
  decide

theorem witness_FrequencyRangeOnlyCrossesTheLink :
    (unitField 0x23000002 = 0x2 ∧ opField 0x23000002 = 3) ∧
    (isMicro .rcvPoll = true ∧ exec .rcvPoll State.reset = .next State.reset) := ⟨by decide, by decide, rfl⟩

theorem witness_SinkReads :
    (unitField 0x311F0000 = 0x3 ∧ opField 0x311F0000 = 1) ∧ (unitField 0x33000001 = 0x3 ∧ opField 0x33000001 = 3) ∧
    (unitField 0x350F9F00 = 0x3 ∧ opField 0x350F9F00 = 5) ∧
    (State.reset.snkPh = .idle ∧ (3999 : BitVec 16).toNat < State.reset.cfg.fbSize) ∧
    (atLastEmit.snkPh ≠ .idle ∧ (3999 : BitVec 16).toNat < atLastEmit.cfg.fbSize) ∧
    State.reset.cfg.fbSize ≤ (4000 : BitVec 16).toNat := by decide

theorem witness_ResetCountReArms :
    (unitField 0x32000001 = 0x3 ∧ opField 0x32000001 = 2) ∧
    ({ State.reset with rxcnt := 32 }.snkPh = .idle ∧ { State.reset with rxcnt := 32 }.rxcnt = 32) ∧
    ({ State.reset with rxcnt := 28 }.snkPh = .idle ∧ { State.reset with rxcnt := 28 }.rxcnt ≠ 32) ∧
    atLastEmit.snkPh ≠ .idle := by decide

theorem witness_FramebufferWrite :
    (unitField 0x34FFFFFF = 0x3 ∧ opField 0x34FFFFFF = 4) ∧
    (MemoriesOk { State.reset with fb := [(3999, 1)] } ∧ { State.reset with fb := [(3999, 1)] }.snkPh = .idle ∧
      (3999 : BitVec 16).toNat < { State.reset with fb := [(3999, 1)] }.cfg.fbSize) ∧
    State.reset.cfg.fbSize ≤ (4000 : BitVec 16).toNat ∧
    (atLastEmit.snkPh ≠ .idle ∧ (0 : BitVec 16).toNat < atLastEmit.cfg.fbSize) := by decide

theorem witness_TickSetsPendingOrMiss :
    (unitField 0xE1010000 = 0xE ∧ opField 0xE1010000 = 1) ∧ State.reset.tickPend = false ∧
    (tickAt 1 false).tickPend = true := by decide

theorem witness_StepWordTakesOneMicroOperation :
    (unitField 0xE2050000 = 0xE ∧ opField 0xE2050000 = 2) ∧ agentEnabled .snk State.reset = false ∧
    (MachineOk inLastButterfly ∧ agentEnabled .fft inLastButterfly = true) :=
  ⟨by decide, by decide, machineOk_of (by decide +kernel), by decide⟩

theorem witness_RunWordRunsToTheHold :
    (unitField 0xE3040000 = 0xE ∧ opField 0xE3040000 = 3) ∧ MachineOk (tickAt 31 false) :=
  ⟨by decide, machineOk_of (by decide +kernel)⟩

theorem witness_SettleWordRunsToQuiescence :
    (unitField 0xE4000001 = 0xE ∧ opField 0xE4000001 = 4) ∧ MachineOk frameBegun :=
  ⟨by decide, machineOk_of (by decide +kernel)⟩

theorem witness_SwapStep :
    (MemoriesOk { State.reset with fftPh := .reorder, regM := 127 } ∧
      { State.reset with fftPh := .reorder, regM := 127 }.fftPh = .reorder ∧
      { State.reset with fftPh := .reorder, regM := 127 }.regM = 127) ∧
    (MemoriesOk { State.reset with fftPh := .reorder, regM := 126 } ∧
      { State.reset with fftPh := .reorder, regM := 126 }.fftPh = .reorder ∧
      { State.reset with fftPh := .reorder, regM := 126 }.regM ≠ 127) ∧
    State.reset.fftPh ≠ .reorder ∧
    (MemoriesOk { State.reset with fftPh := .reorder, regM := 1, fr := [(1, 5)] } ∧
      { State.reset with fftPh := .reorder, regM := 1, fr := [(1, 5)] }.fftPh = .reorder ∧
      { State.reset with fftPh := .reorder, regM := 1, fr := [(1, 5)] }.regM = 1) := by decide

theorem witness_ButterflyStep :
    State.reset.fftPh ≠ .bfly ∧ (MachineOk inLastButterfly ∧ inLastButterfly.fftPh = .bfly) :=
  ⟨by decide, machineOk_of (by decide +kernel), rfl⟩

theorem witness_StreamerSteps :
    ({ frameBegun with rr := true }.strPh = .waitrr ∧ { frameBegun with rr := true }.rr = true) ∧
    ¬(frameBegun.strPh = .waitrr ∧ frameBegun.rr = true) ∧
    ({ State.reset with strPh := .waittxc }.strPh = .waittxc ∧ { State.reset with strPh := .waittxc }.thr = none ∧
      { State.reset with strPh := .waittxc }.tsr = none) ∧
    ¬({ State.reset with strPh := .waittxc, tsr := some 0 }.strPh = .waittxc ∧
      { State.reset with strPh := .waittxc, tsr := some 0 }.thr = none ∧
      { State.reset with strPh := .waittxc, tsr := some 0 }.tsr = none) ∧
    ({ atLastPush with regBy := 2 }.regCh.toNat < 8 ∧ { atLastPush with regBy := 2 }.strPh = .push ∧
      { atLastPush with regBy := 2 }.thr = none ∧ { atLastPush with regBy := 2 }.regBy ≠ 3) ∧
    ({ atLastPush with regCh := 6 }.regCh.toNat < 7 ∧ { atLastPush with regCh := 6 }.strPh = .push ∧
      { atLastPush with regCh := 6 }.thr = none ∧ { atLastPush with regCh := 6 }.regBy = 3) ∧
    (atLastPush.regCh = 7 ∧ atLastPush.strPh = .push ∧ atLastPush.thr = none ∧ atLastPush.regBy = 3) ∧
    ¬({ atLastPush with thr := some 0 }.strPh = .push ∧ { atLastPush with thr := some 0 }.thr = none) := by decide

theorem witness_LinkSteps :
    ({ State.reset with thr := some 0 }.thr = some 0 ∧ { State.reset with thr := some 0 }.tsr = none) ∧
    ¬({ State.reset with thr := some 0, tsr := some 0 }.thr ≠ none ∧
      { State.reset with thr := some 0, tsr := some 0 }.tsr = none) ∧
    ({ State.reset with rxq := [0], tsr := some 1 }.tsr = some 1 ∧
      { State.reset with rxq := [0], tsr := some 1 }.rxq.length < { State.reset with rxq := [0], tsr := some 1 }.cfg.rxDepth) ∧
    ({ State.reset with rxq := [0, 0], tsr := some 1 }.tsr = some 1 ∧
      { State.reset with rxq := [0, 0], tsr := some 1 }.cfg.rxDepth ≤
        { State.reset with rxq := [0, 0], tsr := some 1 }.rxq.length) ∧
    State.reset.tsr = none := by decide

theorem witness_PollAndReadyOffSteps :
    ({ State.reset with snkPh := .rpoll, dr := true, rxcnt := 31 }.snkPh = .rpoll ∧
      { State.reset with snkPh := .rpoll, dr := true, rxcnt := 31 }.dr = true ∧
      { State.reset with snkPh := .rpoll, dr := true, rxcnt := 31 }.rxcnt.toNat < 32) ∧
    ({ State.reset with snkPh := .rpoll, dr := true, rxcnt := 32 }.snkPh = .rpoll ∧
      ¬({ State.reset with snkPh := .rpoll, dr := true, rxcnt := 32 }.dr = true ∧
        { State.reset with snkPh := .rpoll, dr := true, rxcnt := 32 }.rxcnt.toNat < 32)) ∧
    State.reset.snkPh ≠ .rpoll ∧
    { State.reset with snkPh := .rrdyoff }.snkPh = .rrdyoff ∧ State.reset.snkPh ≠ .rrdyoff := by decide

theorem witness_ReadByteSteps :
    (MemoriesOk atLastRd0 ∧ atLastRd0.snkPh = .rrd0 ∧ atLastRd0.rxq = 0x5C :: [] ∧ atLastRd0.rxcnt.toNat < 32) ∧
    ¬({ atLastRd0 with rxq := [] }.snkPh = .rrd0 ∧ { atLastRd0 with rxq := [] }.rxq ≠ []) ∧
    (MemoriesOk atLastRdn ∧ atLastRdn.snkPh = .rrdn ∧ atLastRdn.rxq = 0x07 :: [] ∧ atLastRdn.rxcnt.toNat < 32 ∧
      atLastRdn.rb.toNat + 1 = 4) ∧
    (MemoriesOk { atLastRdn with rb := 2 } ∧ { atLastRdn with rb := 2 }.snkPh = .rrdn ∧
      { atLastRdn with rb := 2 }.rxq = 0x07 :: [] ∧ { atLastRdn with rb := 2 }.rxcnt.toNat < 32 ∧
      { atLastRdn with rb := 2 }.rb.toNat + 1 ≠ 4) ∧
    ¬({ atLastRdn with rxq := [] }.snkPh = .rrdn ∧ { atLastRdn with rxq := [] }.rxq ≠ []) := by decide

theorem witness_SyncOnStep :
    ((tickAt 1 false).snkPh = .idle ∧ (tickAt 1 false).tickPend = true) ∧
    ¬(State.reset.snkPh = .idle ∧ State.reset.tickPend = true) := by decide

theorem witness_CountStep :
    ({ State.reset with snkPh := .count }.cfg.valid = true ∧
      { State.reset with snkPh := .count }.line.toNat < { State.reset with snkPh := .count }.cfg.wrapAt ∧
      { State.reset with snkPh := .count }.snkPh = .count) ∧
    State.reset.snkPh ≠ .count := by decide +kernel

theorem witness_SyncOffStep :
    ({ State.reset with snkPh := .syncoff, line := 231 }.snkPh = .syncoff ∧
      Config.default.visTop ≤ { State.reset with snkPh := .syncoff, line := 231 }.line.toNat ∧
      { State.reset with snkPh := .syncoff, line := 231 }.line.toNat < Config.default.visBot) ∧
    (let s : State :=
      { State.reset with cfg := { Config.default with rxInVsync := false }, snkPh := .syncoff, line := 248, pol := true }
     s.snkPh = .syncoff ∧ ¬(s.cfg.visTop ≤ s.line.toNat ∧ s.line.toNat < s.cfg.visBot) ∧ s.pol = true ∧
      s.cfg.rxInVsync = false) ∧
    (let s : State := { State.reset with snkPh := .syncoff, line := 232 }
     s.snkPh = .syncoff ∧ ¬(s.cfg.visTop ≤ s.line.toNat ∧ s.line.toNat < s.cfg.visBot) ∧
      ¬(s.pol = true ∧ s.cfg.rxInVsync = false)) ∧
    State.reset.snkPh ≠ .syncoff := by decide

theorem witness_EmitStep :
    (MachineOk atLastEmit ∧ atLastEmit.snkPh = .emit ∧ atLastEmit.col.toNat + 1 = atLastEmit.cfg.bpr) ∧
    (MachineOk { atLastEmit with col := 18 } ∧ { atLastEmit with col := 18 }.snkPh = .emit ∧
      { atLastEmit with col := 18 }.col.toNat + 1 ≠ { atLastEmit with col := 18 }.cfg.bpr) ∧
    State.reset.snkPh ≠ .emit :=
  ⟨⟨machineOk_of (by decide +kernel), by decide⟩, ⟨machineOk_of (by decide +kernel), by decide⟩, by decide⟩

theorem witness_FixedPointRoundTrip : (-128 : ℚ) ≤ 32767 / 256 ∧ (32767 / 256 : ℚ) < 128 := by norm_num

theorem witness_MulfixIsBits23To8 :
    Config.default.mulPoints = [] ∧ ((0x8000, 0x8000) : Word × Word) ≠ (0x8000, 0x7FFF) := by decide

theorem witness_ButterflyMagnitudeBound :
    63 < 64 ∧ 32750 ≤ 32750 ∧
    sint16 (⟨32750, 0⟩ : Cplx).re ^ 2 + sint16 (⟨32750, 0⟩ : Cplx).im ^ 2 ≤ ((32750 : Nat) : Int) ^ 2 ∧
    sint16 (⟨0, -32750⟩ : Cplx).re ^ 2 + sint16 (⟨0, -32750⟩ : Cplx).im ^ 2 ≤ ((32750 : Nat) : Int) ^ 2 := by decide

theorem witness_TransformRunsToCompletion :
    Memory.wf ([(127, 5)] : Memory 16) = true ∧
    (MachineOk { State.reset with fr := [(0, 0x4000)] } ∧ { State.reset with fr := [(0, 0x4000)] }.fftPh = .idle) :=
  ⟨by decide, machineOk_of (by decide +kernel), rfl⟩

theorem witness_ExactSmallTransforms :
    (let fr : Memory 16 := (List.range 128).map fun i => (i, 0xFED4)
     Memory.wf fr = true ∧ Memory.wf ([] : Memory 16) = true ∧ (∀ i < 128, fr.read i = 0xFED4) ∧
      (∀ i < 128, Memory.read ([] : Memory 16) i = 0) ∧ sint16 0xFED4 % 2 = 0) ∧
    (Memory.wf ([(0, 0x4000)] : Memory 16) = true ∧
      (∀ i < 128, Memory.read ([(0, 0x4000)] : Memory 16) i = if i = 0 then 0x4000 else 0) ∧ sint16 0x4000 % 128 = 0) := by
  decide +kernel

theorem witness_TransformOfRealSamplesNeverWraps :
    Memory.wf ([(0, 32700), (127, -32700)] : Memory 16) = true ∧
    (∀ i < 128, -32700 ≤ sint16 (Memory.read ([(0, 32700), (127, -32700)] : Memory 16) i) ∧
      sint16 (Memory.read ([(0, 32700), (127, -32700)] : Memory 16) i) ≤ 32700) ∧
    (∀ i < 128, Memory.read ([] : Memory 16) i = 0) ∧ butterflyOrder[447]? = some (6, 63, 63) := by decide +kernel

theorem witness_ResetMeetsInvariant :
    Config.default.valid = true ∧
    { Config.default with
      lineFirst := 3, visTop := 7, visBot := 9, vsStart := 9, vsEnd := 12, wrapAt := 13, bpr := 255
      rxDepth := 1 }.valid = true := by decide +kernel

theorem witness_StepKeepsInvariant :
    MachineOk { inLastButterfly with turns := [.agent .fft] } ∧
    ∃ t, step { inLastButterfly with turns := [.agent .fft] } = .next t :=
  ⟨machineOk_of (by decide +kernel), _, rfl⟩

theorem witness_StepNeverStops : MachineOk { atLastEmit with turns := [.agent .snk] } := machineOk_of (by decide +kernel)

theorem witness_OnlyListedOperationsWrite :
    (isMicro .lnkXfer = true ∧ ∃ t, exec .lnkXfer { State.reset with tsr := some 1 } = .next t) ∧
    (isCommand .strSend = true ∧ ∃ t, exec .strSend State.reset = .next t) ∧
    ∃ t, exec .evtLine State.reset = .next t := ⟨⟨rfl, _, rfl⟩, ⟨rfl, _, rfl⟩, _, rfl⟩

theorem witness_StickyBitsAndParameters :
    ∃ t, step { tickAt 1 false with ovr := true, miss := true, turns := [.word 0xE1000000] } = .next t := ⟨_, rfl⟩

theorem witness_OwnershipGates :
    (isCommand (.fftLds 127 1) = true ∧ inLastButterfly.fftPh ≠ .idle ∧ ∃ t, exec (.fftLds 127 1) inLastButterfly = .next t) ∧
    (atLastPush.strPh ≠ .idle ∧ ∃ t, step { atLastPush with turns := [.word 0x211F0001] } = .next t) ∧
    (MachineOk { frameBegun with rxcnt := 32, turns := [.word 0xE1000000] } ∧
      ∃ t, step { frameBegun with rxcnt := 32, turns := [.word 0xE1000000] } = .next t) ∧
    (isCommand (.snkWrfb 0 1) = true ∧ atLastEmit.snkPh ≠ .idle ∧ ∃ t, exec (.snkWrfb 0 1) atLastEmit = .next t) :=
  ⟨⟨rfl, by decide, _, rfl⟩, ⟨by decide, _, rfl⟩, ⟨machineOk_of (by decide +kernel), _, rfl⟩, ⟨rfl, by decide, _, rfl⟩⟩

theorem witness_FftStepsCommuteWithOtherUnits :
    isMicro .lnkXfer = true ∧ (∃ t, exec .lnkXfer { inLastButterfly with tsr := some 1 } = .next t) ∧
    ∃ u, stepAgent .fft { inLastButterfly with tsr := some 1 } = .next u := ⟨rfl, ⟨_, rfl⟩, _, rfl⟩

theorem witness_FramesArriveWholeAndInOrder :
    (let s : State :=
      { State.reset with
        strPh := .waittxc, dr := true, regCh := 8, txbins := [(31, 5)], tsr := some 5, rxcnt := 31, rb := 3
        snkPh := .rrdn, line := 1, turns := [.agent .lnk] }
     MachineOk s ∧ Streamed (fun k => if k = 31 then 5 else 0) 32 31 s ∧
      sendMoves s = false ∧ rearmMoves s = false ∧ ∃ t, step s = .next t ∧ t.ovr = false) ∧
    (let s : State := { State.reset with rxcnt := 32, regCh := 8, turns := [.word 0x32000000] }
     MachineOk s ∧ Streamed (fun _ => 0) 32 32 s ∧ sendMoves s = false ∧ rearmMoves s = true ∧
      ∃ t, step s = .next t ∧ t.ovr = false) ∧
    (let s : State := { State.reset with turns := [.word 0x22000000] }
     MachineOk s ∧ Streamed (fun _ => 0) 0 0 s ∧ sendMoves s = true ∧ ∃ t, step s = .next t) ∧
    (MachineOk State.reset ∧ Streamed (fun _ => 0) 0 0 State.reset ∧ State.reset.strPh = .idle ∧
      ∃ t, exec .strSend State.reset = .next t) ∧
    (Streamed (fun _ => 0) 32 32 { State.reset with rxcnt := 32, regCh := 8 } ∧
      { State.reset with rxcnt := 32, regCh := 8 }.rxcnt = 32) :=
  ⟨⟨machineOk_of (by decide +kernel), by decide +kernel, rfl, rfl, _, rfl, rfl⟩,
    ⟨machineOk_of (by decide +kernel), by decide +kernel, rfl, rfl, _, rfl, rfl⟩,
    ⟨machineOk_of (by decide +kernel), by decide +kernel, rfl, _, rfl⟩,
    ⟨witness_reset_ok, by decide +kernel, rfl, _, rfl⟩, by decide +kernel, rfl⟩

/-- One frame from STR.SEND to the 32nd byte, by EVT.LINE and EVT.SETTLE on the first eight lines. -/
def oneFrame : List Turn :=
  [.word 0x211F005A, .word 0x22000000] ++ (List.replicate 8 [Turn.word 0xE1000000, Turn.word 0xE4000000]).flatten

theorem witness_FullBinsAreTheFrameSent :
    Config.default.valid = true ∧ (stateAt (State.resetRun Config.default oneFrame) 18).ovr = false ∧
    (stateAt (State.resetRun Config.default oneFrame) 18).rxcnt = 32 ∧
    (stateAt (State.resetRun Config.default oneFrame) 18).rxbins = [(31, 0x5A)] := by decide +kernel

/-- A frame up to its second byte on the way, each agent by its own turns. -/
def twoTransfers : List Turn :=
  [.word 0x22000000, .word 0xE1000000] ++ List.replicate 4 (.agent .snk) ++ List.replicate 2 (.agent .str) ++
    List.replicate 2 (.agent .lnk) ++ [.agent .snk, .word 0xE2020000, .agent .lnk, .word 0xE2040000]

theorem witness_LinkPremisesPreventOverrun :
    (∀ d ∈ [2, 4],
      let c : Config := { Config.default with rxDepth := d }
      let s := State.resetRun c twoTransfers
      c.valid = true ∧ (∀ t ∈ twoTransfers, singleTurn t = true) ∧ ReceiverKeepsUp s 14 ∧ ReadySeenInTime s 14 ∧
        stepsWith xferMoves s 14 = 2 ∧ stepsWith waitrrMoves s 14 = 1) ∧
    (let c : Config := { Config.default with rxDepth := 32 }
     c.valid = true ∧ stepsWith sendMoves (State.resetRun c oneFrame) 18 = 1) := by decide +kernel

/-- After one frame the sink host re-arms with `DR = 0` and a second tick comes to the idle sink. -/
theorem witness_VideoPremises :
    let ts := oneFrame ++ [.word 0x32000000, .word 0xE1000000]
    let s := State.resetRun Config.default ts
    Config.default.valid = true ∧ (stateAt s 20).ovr = false ∧ RearmsAfterDrain s 20 ∧ stepsWith rearmMoves s 20 = 1 ∧
    TicksWhenIdle s 20 ∧ stepsWith lineMoves s 20 = 9 ∧
    (TicksWhenIdle (State.resetRun Config.default twoTransfers) 14 ∧ ∀ t ∈ twoTransfers, singleTurn t = true) := by
  decide +kernel

/-- V-HAZ-1 up to its overrun: it breaks P1 and keeps P2. -/
theorem test_premises_tell_hazards_apart :
    let ts : List Turn := [.word 0x22000000, .word 0xE1000000] ++ List.replicate 4 (.word 0xE2030000) ++
      [.word 0xE2020000, .word 0xE2020000, .word 0xE2040000, .word 0xE2020000, .word 0xE2040000, .word 0xE2040000]
    let s := State.resetRun Config.default (ts ++ [.word 0xE2020000, .word 0xE2040000])
    ReceiverKeepsUp s 13 ∧ ¬ReceiverKeepsUp s 14 ∧ ReadySeenInTime s 14 := by decide +kernel

/-- A Streamer that sees the ready line of its own first chunk, with the smallest queue the statement covers. -/
theorem witness_PacedLinkNeverOverruns :
    let s : State :=
      { frameBegun with cfg := { Config.default with rxDepth := 4 }, snkPh := .rrd0, rr := true, line := 1 }
    MachineOk s ∧ 4 ≤ s.cfg.rxDepth ∧ Streamed (fun _ => 0) 0 0 s ∧ Paced s ∧ s.strPh = .waitrr ∧ ReadyNotStale s ∧
      ∃ t, exec .strWaitrr s = .next t :=
  ⟨machineOk_of (by decide +kernel), by decide, by decide +kernel, by decide, rfl, by decide, _, rfl⟩

theorem witness_LostByteStallsBothNodes :
    BothStalled bothStalled ∧ MachineOk bothStalled ∧
    (∃ t, step { bothStalled with turns := [.word 0xE4000000] } = .next t) ∧ unitField 0x32000000 = 3 :=
  ⟨by decide, machineOk_of (by decide +kernel), ⟨_, rfl⟩, by decide⟩

/-- The number of the line an invocation starts (rule R183). -/
def nextLine (s : State) : Nat := if s.line.toNat + 1 = s.cfg.wrapAt then s.cfg.lineFirst else s.line.toNat + 1

/-- The first and the last visible line. -/
theorem witness_VisibleInvocation :
    (MachineOk (tickAt 31 false) ∧ (tickAt 31 false).snkPh = .idle ∧ (tickAt 31 false).tickPend = true ∧
      32 = nextLine (tickAt 31 false) ∧ (tickAt 31 false).cfg.visTop ≤ 32 ∧ 32 < (tickAt 31 false).cfg.visBot) ∧
    (MachineOk (tickAt 230 false) ∧ (tickAt 230 false).snkPh = .idle ∧ (tickAt 230 false).tickPend = true ∧
      231 = nextLine (tickAt 230 false) ∧ (tickAt 230 false).cfg.visTop ≤ 231 ∧ 231 < (tickAt 230 false).cfg.visBot) :=
  ⟨⟨machineOk_of (by decide +kernel), by decide⟩, machineOk_of (by decide +kernel), by decide⟩

/-- The three cases of a blanking line: the first line of the region without the Receiver there, the wrap to the first
line with nothing to receive, and the last line of the margin with a chunk to accept. -/
theorem witness_BlankingInvocation_lines :
    (let s : State := { tickAt 247 false with cfg := { Config.default with rxInVsync := false } }
     MachineOk s ∧ s.snkPh = .idle ∧ s.tickPend = true ∧ 248 = nextLine s ∧
      ¬(s.cfg.visTop ≤ 248 ∧ 248 < s.cfg.visBot) ∧ (s.cfg.vsStart ≤ 248 ∧ 248 < s.cfg.vsEnd) ∧ s.cfg.rxInVsync = false) ∧
    (let s : State := tickAt 262 false
     MachineOk s ∧ s.snkPh = .idle ∧ s.tickPend = true ∧ 1 = nextLine s ∧ ¬(s.cfg.visTop ≤ 1 ∧ 1 < s.cfg.visBot) ∧
      ¬(s.cfg.vsStart ≤ 1 ∧ 1 < s.cfg.vsEnd) ∧ ¬(s.dr = true ∧ s.rxcnt.toNat < 32)) ∧
    (let s : State := { tickAt 30 false with strPh := .waitrr, dr := true, rxcnt := 28 }
     MachineOk s ∧ s.snkPh = .idle ∧ s.tickPend = true ∧ 31 = nextLine s ∧ ¬(s.cfg.visTop ≤ 31 ∧ 31 < s.cfg.visBot) ∧
      ¬(s.cfg.vsStart ≤ 31 ∧ 31 < s.cfg.vsEnd) ∧ (s.dr = true ∧ s.rxcnt.toNat < 32)) :=
  ⟨⟨machineOk_of (by decide +kernel), by decide⟩, ⟨machineOk_of (by decide +kernel), by decide⟩,
    machineOk_of (by decide +kernel), by decide⟩

/-- Four bytes of the frame's last chunk in the queue; and a first byte, the ready line and a last byte of a chunk in a
queue of the default depth. -/
theorem witness_BlankingInvocation_chunk :
    (let s : State := { atLastRd0 with cfg := { Config.default with rxDepth := 4 }, rxq := [1, 2, 3, 4] }
     MachineOk s ∧ s.snkPh = .rrd0 ∧ s.rxq = 1 :: 2 :: 3 :: 4 :: []) ∧
    (MachineOk atLastRd0 ∧ atLastRd0.snkPh = .rrd0 ∧ ∃ t, stepAgent .snk atLastRd0 = .next t) ∧
    (MachineOk atLastRdn ∧ atLastRdn.snkPh = .rrdn ∧ ∃ t, stepAgent .snk atLastRdn = .next t) :=
  ⟨⟨machineOk_of (by decide +kernel), rfl, rfl⟩, ⟨machineOk_of (by decide +kernel), rfl, _, rfl⟩,
    machineOk_of (by decide +kernel), rfl, _, rfl⟩

/-- A frame's last chunk: the Receiver polls with two bytes queued, one in `TSR` and one in `THR`. -/
def atLastPoll : State :=
  { State.reset with
    snkPh := .rpoll, dr := true, rxcnt := 28, line := 1, strPh := .waittxc, regCh := 8, rxq := [1, 2], tsr := some 3
    thr := some 4
    turns := [.agent .snk, .agent .snk, .agent .lnk, .agent .snk, .word 0xE2030000, .agent .lnk, .agent .lnk,
      .agent .snk, .word 0x32000000, .agent .snk] }

theorem witness_AcceptedInvocationReceivesOneChunk :
    (let s : State := { atLastRdn with turns := [.agent .snk] }
     MachineOk s ∧ (∀ u ∈ s.turns, singleTurn u = true) ∧ s.snkPh = .rrdn ∧ s.rb = 3 ∧ ∃ t, step s = .next t) ∧
    (let s : State := { atLastRd0 with turns := [.word 0x32000000] }
     MachineOk s ∧ (∀ u ∈ s.turns, singleTurn u = true) ∧ s.snkPh = .rrd0 ∧ ∃ t, step s = .next t) ∧
    (MachineOk atLastPoll ∧ (∀ u ∈ atLastPoll.turns, singleTurn u = true) ∧ acceptMoves atLastPoll = true ∧
      (∀ k < 10, (stateAt atLastPoll k).snkPh ≠ .idle) ∧ (stateAt atLastPoll 10).snkPh = .idle) ∧
    (let s : State := { atLastEmit with turns := [.agent .snk] }
     MachineOk s ∧ (∀ u ∈ s.turns, singleTurn u = true) ∧ s.snkPh = .emit ∧ ∃ t, step s = .next t) ∧
    Config.default.valid = true :=
  ⟨⟨machineOk_of (by decide +kernel), by decide, rfl, rfl, _, rfl⟩,
    ⟨machineOk_of (by decide +kernel), by decide, rfl, _, rfl⟩,
    ⟨machineOk_of (by decide +kernel), by decide, by decide +kernel, by decide +kernel, by decide +kernel⟩,
    ⟨machineOk_of (by decide +kernel), by decide, rfl, _, rfl⟩, by decide +kernel⟩

theorem witness_FrameHasTheConfiguredLines :
    { State.reset with snkPh := .count }.snkPh = .count ∧ MachineOk State.reset := ⟨rfl, witness_reset_ok⟩

end Sys2Proof.Tests
end

