-- ==== Sys2Proof/Proofs/StatusWords.lean ====
section
/-! PROOFS. The status words of the three units (statement StatusWords): which words ask for them, what they answer, bit
by bit, and when the sink's is refused. The general facts come first: a word as the concatenation of its fields, a
command without operands, the number a concatenation stands for, and busy bits and flags as propositions. -/

namespace Sys2Proof

/-! ## Port words of format A and their decoding by unit -/

/-- A word is its four fields put together (rule R84): no bit stands outside them. -/
theorem formatA_fields (w : PortWord) : formatA (unitField w) (opField w) (idxField w) (dataField w) = w := by
  apply BitVec.eq_of_getLsbD_eq
  intro k hk
  rw [getLsbD_formatA]
  simp only [unitField, opField, idxField, dataField, BitVec.getLsbD_extractLsb']
  split_ifs
  all_goals grind

/-- With its unit and operation known, a word whose other fields are zero is one word. -/
theorem idxField_dataField_eq_zero_iff {w : PortWord} {u o : BitVec 4} (hu : unitField w = u) (ho : opField w = o) :
    (idxField w = 0 ∧ dataField w = 0) ↔ w = formatA u o 0 0 := by
  constructor
  · rintro ⟨hi, hd⟩
    rw [← formatA_fields w, hu, ho, hi, hd]
  · rintro rfl
    exact ⟨idxField_formatA .., dataField_formatA ..⟩

/-- The check of a command without operands passes exactly one word of its unit and operation (rules R84, R99). -/
theorem need_no_operands {w : PortWord} {u o : BitVec 4} (hu : unitField w = u) (ho : opField w = o) (i : Instr) :
    need (idxField w == 0 && dataField w == 0) .fieldNotZero (.ok i) =
      if w = formatA u o 0 0 then .ok i else .error .fieldNotZero := by
  simp only [need, Bool.and_eq_true, beq_iff_eq, idxField_dataField_eq_zero_iff hu ho]

theorem decode_word_of_unit_fft {w : PortWord} (hu : unitField w = 0x1) :
    decode (.word w) = decodeFft (opField w).toNat (idxField w) (dataField w) := by
  simp [decode, decodeWord, hu]

theorem decode_word_of_unit_str {w : PortWord} (hu : unitField w = 0x2) :
    decode (.word w) = decodeStr (opField w).toNat (idxField w) (dataField w) := by
  simp [decode, decodeWord, hu]

theorem decode_word_of_unit_snk {w : PortWord} (hu : unitField w = 0x3) :
    decode (.word w) = decodeSnk (opField w).toNat (idxField w) (dataField w) (addrField w) (byteField w) := by
  simp [decode, decodeWord, hu]

theorem decode_fftStat_word {w : PortWord} (hu : unitField w = 0x1) (ho : opField w = 0) :
    decode (.word w) = if w = 0x10000000 then .ok .fftStat else .error .fieldNotZero := by
  rw [decode_word_of_unit_fft hu, ho]
  exact need_no_operands hu ho .fftStat

theorem decode_strStat_word {w : PortWord} (hu : unitField w = 0x2) (ho : opField w = 0) :
    decode (.word w) = if w = 0x20000000 then .ok .strStat else .error .fieldNotZero := by
  rw [decode_word_of_unit_str hu, ho]
  exact need_no_operands hu ho .strStat

theorem decode_snkStat_word {w : PortWord} (hu : unitField w = 0x3) (ho : opField w = 0) :
    decode (.word w) = if w = 0x30000000 then .ok .snkStat else .error .fieldNotZero := by
  rw [decode_word_of_unit_snk hu, ho]
  exact need_no_operands hu ho .snkStat

/-! ## Concatenations as numbers -/

/-- The upper part of a concatenation counts from the lower part's width on; the parts never overlap, so the bitwise
"or" is a sum. -/
theorem toNat_append_eq_add {m n : Nat} (x : BitVec m) (y : BitVec n) :
    (x ++ y).toNat = x.toNat * 2 ^ n + y.toNat := by
  rw [BitVec.toNat_append, ← Nat.shiftLeft_add_eq_or_of_lt y.isLt, Nat.shiftLeft_eq]

end Sys2Proof

namespace Sys2Proof.Machine

/-! ## Busy bits and flags as propositions (rules R25, R31, R37, R48, R50) -/

theorem fftBusy_eq_decide (s : State) : fftBusy s = decide (s.fftPh ≠ .idle) := by
  simp [fftBusy, bne, beq_eq_decide]

theorem strBusy_eq_decide (s : State) : strBusy s = decide (s.strPh ≠ .idle) := by
  simp [strBusy, bne, beq_eq_decide]

theorem snkBusy_eq_decide (s : State) : snkBusy s = decide (s.snkPh ≠ .idle) := by
  simp [snkBusy, bne, beq_eq_decide]

theorem isNone_eq_decide {α : Type} (o : Option α) [Decidable (o = none)] : o.isNone = decide (o = none) := by
  rw [Bool.eq_iff_iff, decide_eq_true_iff, Option.isNone_iff_eq_none]

theorem txe_eq_decide (s : State) : txe s = decide (s.thr = none) := by
  rw [txe, isNone_eq_decide]

theorem txc_eq_decide (s : State) : txc s = decide (s.thr = none ∧ s.tsr = none) := by
  rw [txc, isNone_eq_decide, isNone_eq_decide, Bool.decide_and]

theorem full_eq_decide (s : State) : full s = decide (s.rxcnt.toNat = 32) := by
  simp [full, beq_eq_decide, ← BitVec.toNat_inj]

theorem unlessBusy_of_busy (s : State) (go : Result) : unlessBusy true s go = .next (s.respond .nakBusy 0) := rfl

theorem unlessBusy_of_idle (s : State) (go : Result) : unlessBusy false s go = go := rfl

/-! ## The status words as sums of their fields (rules R29, R38, R54) -/

theorem toNat_bit (b : Bool) : (bit b).toNat = b.toNat := BitVec.toNat_ofBool b

theorem fftStatus_toNat (s : State) :
    (fftStatus s).toNat = (decide (s.fftPh ≠ .idle)).toNat + 2 * s.fftDone.toNat := by
  rw [← fftBusy_eq_decide]
  simp only [fftStatus, toNat_append_eq_add, toNat_bit, BitVec.ofNat_eq_ofNat, BitVec.toNat_ofNat]
  omega

theorem strStatus_toNat (s : State) :
    (strStatus s).toNat = (decide (s.strPh ≠ .idle)).toNat + 2 * s.dr.toNat + 4 * s.rr.toNat +
      8 * (decide (s.thr = none)).toNat + 16 * (decide (s.thr = none ∧ s.tsr = none)).toNat + 32 * s.frq.toNat +
      256 * s.regCh.toNat + 4096 * s.regBy.toNat := by
  rw [← strBusy_eq_decide, ← txe_eq_decide, ← txc_eq_decide]
  simp only [strStatus, toNat_append_eq_add, toNat_bit, BitVec.ofNat_eq_ofNat, BitVec.toNat_ofNat]
  omega

theorem snkStatus_toNat (s : State) :
    (snkStatus s).toNat = s.rxcnt.toNat + 64 * (decide (s.rxcnt.toNat = 32)).toNat + 128 * s.dr.toNat +
      256 * s.frq.toNat + 512 * s.rr.toNat + 1024 * s.pol.toNat + 2048 * s.ovr.toNat + 4096 * s.miss.toNat +
      8192 * s.tickPend.toNat := by
  rw [← full_eq_decide]
  simp only [snkStatus, toNat_append_eq_add, toNat_bit, BitVec.ofNat_eq_ofNat, BitVec.toNat_ofNat]
  omega

/-! ## The commands that answer them (rules R120, R141, R195) -/

theorem exec_fftStat (s : State) : exec .fftStat s = .next (s.respond .ack (fftStatus s)) := rfl

theorem exec_strStat (s : State) : exec .strStat s = .next (s.respond .ack (strStatus s)) := rfl

theorem exec_snkStat (s : State) :
    exec .snkStat s = unlessBusy (snkBusy s) s (.next (s.respond .ack (snkStatus s))) := rfl

theorem exec_snkStat_of_idle {s : State} (h : s.snkPh = .idle) :
    exec .snkStat s = .next (s.respond .ack (snkStatus s)) := by
  have hb : snkBusy s = false := by simp [snkBusy_eq_decide, h]
  rw [exec_snkStat, hb, unlessBusy_of_idle]

theorem exec_snkStat_of_busy {s : State} (h : s.snkPh ≠ .idle) :
    exec .snkStat s = .next (s.respond .nakBusy 0) := by
  have hb : snkBusy s = true := by simp [snkBusy_eq_decide, h]
  rw [exec_snkStat, hb, unlessBusy_of_busy]

/-! ## The readings at reset (rules R120, R141, R271) -/

theorem fftStatus_reset : fftStatus State.reset = 0x0000 := by decide

/-- `TXE` and `TXC`: both registers of the transmitter are empty. -/
theorem strStatus_reset : strStatus State.reset = 0x0018 := by decide

theorem snkStatus_reset : snkStatus State.reset = 0x0000 := by decide

/-- Settles O9: each word is its rule's concatenation, whose number is the sum of the fields at their bit positions. -/
theorem statusWords : Obligations.StatusWords := by
  refine ⟨fun _ => decode_fftStat_word, fun _ => decode_strStat_word, fun _ => decode_snkStat_word,
    fun s => ⟨fftStatus s, exec_fftStat s, fftStatus_toNat s⟩,
    fun s => ⟨strStatus s, exec_strStat s, strStatus_toNat s⟩,
    fun s hidle => ⟨snkStatus s, exec_snkStat_of_idle hidle, snkStatus_toNat s⟩,
    fun _ hbusy => exec_snkStat_of_busy hbusy, ?_, ?_, ?_⟩
  · rw [exec_fftStat, fftStatus_reset]
    rfl
  · rw [exec_strStat, strStatus_reset]
    rfl
  · rw [exec_snkStat_of_idle rfl, snkStatus_reset]
    rfl

end Sys2Proof.Machine
end

section
/-! PROOFS. The value of a phase register selects the sequencer's micro-operation (statement
PhaseCodesSelectTheMicroOperation): the decoding of each register, an agent's step as `exec` of what is decoded, and the
enabling clause of an agent as a condition on its phase, from which a disabled agent's step is a hold. -/

namespace Sys2Proof.Machine

/-! ## The selecting registers (rules R95 to R97, R101) -/

theorem decode_agentCode_fft (s : State) : decode (agentCode .fft s) = match s.fftPh with
    | .idle => .error .noMicroOp
    | .reorder => .ok .fftSwap
    | .bfly => .ok .fftBfly := by
  rw [agentCode]
  cases s.fftPh <;> rfl

theorem decode_agentCode_str (s : State) : decode (agentCode .str s) = match s.strPh with
    | .idle => .error .noMicroOp
    | .waitrr => .ok .strWaitrr
    | .push => .ok .strPush
    | .waittxc => .ok .strFin := by
  rw [agentCode]
  cases s.strPh <;> rfl

theorem decode_agentCode_snk (s : State) : decode (agentCode .snk s) = match s.snkPh with
    | .idle => .ok .rasSyncon
    | .count => .ok .rasCount
    | .syncoff => .ok .rasSyncoff
    | .emit => .ok .rasEmit
    | .rpoll => .ok .rcvPoll
    | .rrd0 => .ok .rcvRd0
    | .rrdyoff => .ok .rcvRdyoff
    | .rrdn => .ok .rcvRdn := by
  rw [agentCode]
  cases s.snkPh <;> rfl

theorem decode_agentCode_lnk (s : State) : decode (agentCode .lnk s) =
    if s.tsr.isSome then .ok .lnkXfer else if s.thr.isSome then .ok .lnkLoad else .error .noMicroOp := by
  rw [agentCode, linkCode]
  cases s.tsr.isSome <;> cases s.thr.isSome <;> rfl

/-- What a selecting register gives the decoder is a micro-operation (rule R101). -/
theorem isMicro_of_decode_agentCode {a : Agent} {s : State} {i : Instr} (h : decode (agentCode a s) = .ok i) :
    isMicro i = true := by
  cases a with
  | fft =>
    rw [decode_agentCode_fft] at h
    split at h <;> cases h <;> rfl
  | str =>
    rw [decode_agentCode_str] at h
    split at h <;> cases h <;> rfl
  | snk =>
    rw [decode_agentCode_snk] at h
    split at h <;> cases h <;> rfl
  | lnk =>
    rw [decode_agentCode_lnk] at h
    split_ifs at h <;> cases h <;> rfl

/-- An agent's step is its selected operation, or nothing where none is selected. -/
theorem stepAgent_eq_exec (a : Agent) (s : State) : stepAgent a s = match decode (agentCode a s) with
    | .ok i => exec i s
    | .error _ => .next s := by
  cases a with
  | fft =>
    rw [decode_agentCode_fft]
    simp only [stepAgent, stepFft]
    cases s.fftPh <;> rfl
  | str =>
    rw [decode_agentCode_str]
    simp only [stepAgent, stepStr]
    cases s.strPh <;> rfl
  | snk =>
    rw [decode_agentCode_snk]
    simp only [stepAgent, stepSnk]
    cases s.snkPh <;> rfl
  | lnk =>
    rw [decode_agentCode_lnk]
    simp only [stepAgent, stepLnk]
    cases s.tsr.isSome <;> cases s.thr.isSome <;> rfl

/-! ## Enabling clauses by phase -/

theorem agentEnabled_fft (s : State) : agentEnabled .fft s = true ↔ s.fftPh = .reorder ∨ s.fftPh = .bfly := by
  simp [agentEnabled, swapEnabled, bflyEnabled]

theorem agentEnabled_str (s : State) : agentEnabled .str s = true ↔
    (s.strPh = .waitrr ∧ s.rr = true) ∨ (s.strPh = .push ∧ s.thr = none) ∨
      (s.strPh = .waittxc ∧ s.thr = none ∧ s.tsr = none) := by
  simp [agentEnabled, waitrrEnabled, pushEnabled, finEnabled, txe, txc, or_assoc]

theorem agentEnabled_lnk (s : State) : agentEnabled .lnk s = true ↔
    s.tsr.isSome = true ∨ (s.tsr = none ∧ s.thr.isSome = true) := by
  simp [agentEnabled, xferEnabled, loadEnabled, and_comm]

/-- The sink's condition in a phase: a pending tick when idle, a received byte where one is read, none elsewhere. -/
theorem agentEnabled_snk (s : State) : agentEnabled .snk s = match s.snkPh with
    | .idle => s.tickPend
    | .rrd0 => rxc s
    | .rrdn => rxc s
    | _ => true := by
  simp only [agentEnabled, synconEnabled, countEnabled, syncoffEnabled, emitEnabled, pollEnabled, rd0Enabled,
    rdyoffEnabled, rdnEnabled]
  cases s.snkPh <;> simp [beq_eq_decide]

theorem whenEnabled_of_enabled {b : Bool} (h : b = true) (s : State) (go : Result) : whenEnabled b s go = go := by
  rw [h]; rfl

theorem whenEnabled_of_disabled {b : Bool} (h : b = false) (s : State) (go : Result) :
    whenEnabled b s go = .next s := by
  rw [h]; rfl

/-! ## A disabled agent takes no step -/

theorem stepFft_of_disabled {s : State} (h : agentEnabled .fft s = false) : stepFft s = .next s := by
  have hph : s.fftPh = .idle := by
    rw [Bool.eq_false_iff, ne_eq, agentEnabled_fft] at h
    cases hp : s.fftPh with
    | idle => rfl
    | reorder => exact absurd (.inl hp) h
    | bfly => exact absurd (.inr hp) h
  rw [stepFft, hph]
  rfl

theorem stepStr_of_disabled {s : State} (h : agentEnabled .str s = false) : stepStr s = .next s := by
  simp only [agentEnabled, Bool.or_eq_false_iff] at h
  obtain ⟨⟨hwait, hpush⟩, hfin⟩ := h
  unfold stepStr
  split
  · rfl
  · exact whenEnabled_of_disabled hwait ..
  · exact whenEnabled_of_disabled hpush ..
  · exact whenEnabled_of_disabled hfin ..

theorem stepSnk_of_disabled {s : State} (h : agentEnabled .snk s = false) : stepSnk s = .next s := by
  simp only [agentEnabled, Bool.or_eq_false_iff] at h
  obtain ⟨⟨⟨⟨⟨⟨⟨hsyncon, hcount⟩, hsyncoff⟩, hemit⟩, hpoll⟩, hrd0⟩, hrdyoff⟩, hrdn⟩ := h
  unfold stepSnk
  split
  · exact whenEnabled_of_disabled hsyncon ..
  · exact whenEnabled_of_disabled hcount ..
  · exact whenEnabled_of_disabled hsyncoff ..
  · exact whenEnabled_of_disabled hemit ..
  · exact whenEnabled_of_disabled hpoll ..
  · exact whenEnabled_of_disabled hrd0 ..
  · exact whenEnabled_of_disabled hrdyoff ..
  · exact whenEnabled_of_disabled hrdn ..

/-- With both transmit registers empty, the link's step is the last branch of its definition. -/
theorem stepLnk_of_disabled {s : State} (h : agentEnabled .lnk s = false) : stepLnk s = .next s := by
  simp only [agentEnabled, xferEnabled, loadEnabled, Bool.or_eq_false_iff] at h
  obtain ⟨htsr, hload⟩ := h
  have hthr : s.thr.isSome = false := by simpa [Option.isSome_eq_false_iff.1 htsr] using hload
  rw [stepLnk, htsr, hthr]
  rfl

theorem stepAgent_of_disabled {a : Agent} {s : State} (h : agentEnabled a s = false) : stepAgent a s = .next s := by
  cases a with
  | fft => exact stepFft_of_disabled h
  | str => exact stepStr_of_disabled h
  | snk => exact stepSnk_of_disabled h
  | lnk => exact stepLnk_of_disabled h

/-- Settles O6: the codes are read off the tables; each register's decoding and the agents' steps go through their
phases. -/
theorem phaseCodesSelectTheMicroOperation : Obligations.PhaseCodesSelectTheMicroOperation := by
  refine ⟨rfl, rfl, rfl, fun s => ?_, fun s => ?_, fun s => ?_, decode_agentCode_lnk, fun a s => ?_,
    fun s hidle htick => ?_, fun _ _ => stepAgent_of_disabled⟩
  · exact decode_agentCode_fft s
  · exact decode_agentCode_str s
  · exact decode_agentCode_snk s
  · exact stepAgent_eq_exec a s
  · rw [agentEnabled_snk, hidle]
    exact htick

end Sys2Proof.Machine
end

section
/-! PROOFS. The event words (statements TickSetsPendingOrMiss and the decoding clauses of StepWordTakesOneMicroOperation
and RunWordRunsToTheHold): which words name them, and what a tick does. -/

namespace Sys2Proof

theorem decode_word_of_unit_evt {w : PortWord} (hu : unitField w = 0xE) :
    decode (.word w) = decodeEvt (opField w).toNat (idxField w) (dataField w) := by
  simp [decode, decodeWord, hu]

theorem decode_evtLine_word {w : PortWord} (hu : unitField w = 0xE) (ho : opField w = 1) :
    decode (.word w) = if w = 0xE1000000 then .ok .evtLine else .error .fieldNotZero := by
  rw [decode_word_of_unit_evt hu, ho]
  exact need_no_operands hu ho .evtLine

/-- The agent of an event word, by its number (rules R87, R92, R93, R99). -/
theorem decodeAgent_eq (idx : BitVec 8) (data : Word) (make : Agent → Instr) : decodeAgent idx data make =
    match idx.toNat with
    | 1 => if data = 0 then .ok (make .fft) else .error .fieldNotZero
    | 2 => if data = 0 then .ok (make .str) else .error .fieldNotZero
    | 3 => if data = 0 then .ok (make .snk) else .error .fieldNotZero
    | 4 => if data = 0 then .ok (make .lnk) else .error .fieldNotZero
    | _ => .error .agentRange := by
  unfold decodeAgent agentOfNumber
  generalize idx.toNat = n
  rcases n with _ | _ | _ | _ | _ | n <;> simp [need]

theorem decode_evtStep_word {w : PortWord} (hu : unitField w = 0xE) (ho : opField w = 2) :
    decode (.word w) = decodeAgent (idxField w) (dataField w) .evtStep := by
  rw [decode_word_of_unit_evt hu, ho]
  rfl

theorem decode_evtRun_word {w : PortWord} (hu : unitField w = 0xE) (ho : opField w = 3) :
    decode (.word w) = decodeAgent (idxField w) (dataField w) .evtRun := by
  rw [decode_word_of_unit_evt hu, ho]
  rfl

end Sys2Proof

namespace Sys2Proof.Machine

theorem exec_evtLine_of_no_tick {s : State} (h : s.tickPend = false) :
    exec .evtLine s = .next { s with tickPend := true, resp := some (responseWord .ack 0) } := by
  simp [exec, execEvtLine, ackWith, State.respond, h]

theorem exec_evtLine_of_tick {s : State} (h : s.tickPend = true) :
    exec .evtLine s = .next { s with miss := true, resp := some (responseWord .ack 0) } := by
  simp [exec, execEvtLine, ackWith, State.respond, h]

/-- Settles O19: the two cases of rule R181 by the pending bit; the word is the only one of its unit and operation. -/
theorem tickSetsPendingOrMiss : Obligations.TickSetsPendingOrMiss :=
  ⟨fun _ => decode_evtLine_word, fun _ => exec_evtLine_of_no_tick, fun _ => exec_evtLine_of_tick⟩

end Sys2Proof.Machine
end

section
/-! PROOFS. Enabled steps of the agents in a state that meets the invariant: there is a next state, it meets the
invariant, its schedule and response word are the old ones, and the number of steps the agent can still take alone has
become smaller. What a proper step is, and the FFT sequencer's. -/

namespace Sys2Proof.Machine

/-! ## The steps an agent can still take alone (rule R93) -/

/-- The butterflies from the sequencer's indices on: 64 in each stage after this one, `64 / L` for each twiddle index
of this stage after this one, and the positions from `i` on in steps of `2 * L` (rule R127). -/
def butterfliesLeft (stage m i : Nat) : Nat :=
  (6 - stage) * 64 + (halfSpan stage - 1 - m) * (64 / halfSpan stage) + (127 - i) / (2 * halfSpan stage) + 1

/-- Steps of the FFT sequencer up to IDLE: the indices left to reorder and all 448 butterflies, or those left. -/
def fftStepsLeft (s : State) : Nat :=
  match s.fftPh with
  | .idle => 0
  | .reorder => 128 - s.regM.toNat + 448
  | .bfly => butterfliesLeft s.regS.toNat s.regM.toNat s.regI.toNat

/-- A bound on the steps of the Streamer without LNK: one push, for which `THR` must be empty, with a WAITRR before and
after it, or FIN. -/
def strStepsLeft (s : State) : Nat :=
  (if s.thr = none then 2 else 0) + match s.strPh with
    | .idle => 0
    | .waitrr => 1
    | .push => 0
    | .waittxc => 1

/-- Steps of LNK without the Streamer: a byte in `THR` takes two, one in `TSR` one. -/
def lnkStepsLeft (s : State) : Nat := 2 * s.thr.toList.length + s.tsr.toList.length

/-- A bound on the steps of the sink unit up to the end of the running invocation: at most 255 bytes of a row, or POLL
and the chunk's RD0, RDYOFF and three RDN. -/
def invocationStepsLeft (s : State) : Nat :=
  match s.snkPh with
  | .idle => 0
  | .count => 257
  | .syncoff => 256
  | .emit => s.cfg.bpr - s.col.toNat
  | .rpoll => 6
  | .rrd0 => 5
  | .rrdyoff => 4
  | .rrdn => 4 - s.rb.toNat

/-- A bound on the steps an agent can take from a state with no other turn between. -/
def stepsLeft (a : Agent) (s : State) : Nat :=
  match a with
  | .fft => fftStepsLeft s
  | .str => strStepsLeft s
  | .snk => invocationStepsLeft s + if s.tickPend = true then 258 else 0
  | .lnk => lnkStepsLeft s

/-- What an enabled step of an agent leads to from a state in order: a state in order with the same schedule and
response word, from which the agent has fewer steps to take. -/
structure ProperStep (a : Agent) (s t : State) : Prop where
  ok : MachineOk t
  turns : t.turns = s.turns
  resp : t.resp = s.resp
  fewer : stepsLeft a t < stepsLeft a s

/-- A counter below its last value does not wrap. -/
theorem toNat_add_one {n : Nat} {x : BitVec n} (h : x.toNat + 1 < 2 ^ n) : (x + 1).toNat = x.toNat + 1 := by
  rw [BitVec.toNat_add, BitVec.ofNat_eq_ofNat, BitVec.toNat_ofNat, Nat.mod_eq_of_lt (by omega : 1 < 2 ^ n),
    Nat.mod_eq_of_lt h]

/-! ## The FFT sequencer -/

theorem halfSpan_pos_and_le {stage : Nat} (h : stage < 7) : 0 < halfSpan stage ∧ halfSpan stage ≤ 64 := by
  interval_cases stage <;> simp [halfSpan]

/-- The indices of a butterfly in range exist (rule R65). -/
theorem butterfly_indices_lt {stage m i : Nat} (hs : stage < 7) (hm : m < halfSpan stage)
    (him : i % (2 * halfSpan stage) = m) (hi : i < 128) :
    i + halfSpan stage < 128 ∧ angleIndex stage m + 32 < 128 := by
  interval_cases stage <;> simp only [halfSpan, angleIndex, Nat.shiftLeft_eq] at * <;> omega

theorem MemoriesOk.swap {s : State} (h : MemoriesOk s) (m : BitVec 7) :
    Memory.wf (swapCells m s.fr) = true ∧ Memory.within transformSize (swapCells m s.fr) = true := by
  obtain ⟨⟨hwf, hin⟩, -⟩ := h
  unfold swapCells
  split
  · exact ⟨Memory.wf_write (Memory.wf_write hwf ..) ..,
      Memory.within_write (Memory.within_write hin m.isLt _) (rev7 m).isLt _⟩
  · exact ⟨hwf, hin⟩

theorem tableSet_ok {m n : Memory 16} (hm : Memory.wf m = true ∧ Memory.within transformSize m = true)
    (hn : Memory.wf n = true ∧ Memory.within transformSize n = true) {i : Nat} (hi : i < transformSize) (x : Cplx) :
    (Memory.wf (tableSet (m, n) i x).1 = true ∧ Memory.within transformSize (tableSet (m, n) i x).1 = true) ∧
    (Memory.wf (tableSet (m, n) i x).2 = true ∧ Memory.within transformSize (tableSet (m, n) i x).2 = true) :=
  ⟨⟨Memory.wf_write hm.1 .., Memory.within_write hm.2 hi _⟩, ⟨Memory.wf_write hn.1 .., Memory.within_write hn.2 hi _⟩⟩

theorem MemoriesOk.bflyCells {s : State} (h : MemoriesOk s) (hj : s.regI.toNat + halfSpan s.regS.toNat < 128) :
    MemoriesOk (bflyCells s) := by
  obtain ⟨hfr, hfi, hrest⟩ := h
  obtain ⟨hfr', hfi'⟩ := tableSet_ok hfr hfi hj
    (bflyHigh s.cfg ⟨twiddleRe s.cfg (angleIndex s.regS.toNat s.regM.toNat),
      twiddleIm s.cfg (angleIndex s.regS.toNat s.regM.toNat)⟩ (tableAt (s.fr, s.fi) s.regI.toNat)
      (tableAt (s.fr, s.fi) (s.regI.toNat + halfSpan s.regS.toNat)))
  obtain ⟨hfr'', hfi''⟩ := tableSet_ok hfr' hfi' s.regI.isLt
    (bflyLow s.cfg ⟨twiddleRe s.cfg (angleIndex s.regS.toNat s.regM.toNat),
      twiddleIm s.cfg (angleIndex s.regS.toNat s.regM.toNat)⟩ (tableAt (s.fr, s.fi) s.regI.toNat)
      (tableAt (s.fr, s.fi) (s.regI.toNat + halfSpan s.regS.toNat)))
  exact ⟨hfr'', hfi'', hrest⟩

theorem butterfliesLeft_zero : butterfliesLeft 0 0 0 = 448 := by decide

/-- The next position of the same twiddle index is one butterfly on. -/
theorem butterfliesLeft_next_position {stage m i : Nat} (hs : stage < 7) (hi : i + 2 * halfSpan stage < 128) :
    butterfliesLeft stage m (i + 2 * halfSpan stage) < butterfliesLeft stage m i := by
  interval_cases stage <;> simp only [butterfliesLeft, halfSpan, Nat.shiftLeft_eq] at * <;> omega

/-- The first position of the next twiddle index comes after every position of this one. -/
theorem butterfliesLeft_next_twiddle {stage m : Nat} (hs : stage < 7) (hm : m + 1 < halfSpan stage) (i : Nat) :
    butterfliesLeft stage (m + 1) (m + 1) < butterfliesLeft stage m i := by
  interval_cases stage <;> simp only [butterfliesLeft, halfSpan, Nat.shiftLeft_eq] at * <;> omega

theorem butterfliesLeft_next_stage {stage : Nat} (hs : stage < 6) (m i : Nat) :
    butterfliesLeft (stage + 1) 0 0 < butterfliesLeft stage m i := by
  interval_cases stage <;> simp only [butterfliesLeft, halfSpan, Nat.shiftLeft_eq] at * <;> omega

theorem FftOk.at_reorder {s : State} (h : FftOk s) (hph : s.fftPh = .reorder) :
    s.regS = 0 ∧ s.regI = 0 ∧ 0 < s.regM.toNat := h.2.1 hph

theorem FftOk.at_bfly {s : State} (h : FftOk s) (hph : s.fftPh = .bfly) :
    s.regS.toNat < 7 ∧ s.regM.toNat < halfSpan s.regS.toNat ∧
      s.regI.toNat % (2 * halfSpan s.regS.toNat) = s.regM.toNat := h.2.2.1 hph

theorem fftOk_of_idle {s : State} (hph : s.fftPh = .idle) (hregs : s.regS = 0 ∧ s.regM = 0 ∧ s.regI = 0) : FftOk s :=
  ⟨fun _ => hregs, by simp [hph], by simp [hph], fun _ => hph⟩

theorem fftOk_of_reorder {s : State} (hph : s.fftPh = .reorder) (hdone : s.fftDone ≠ true) (hS : s.regS = 0)
    (hI : s.regI = 0) (hM : 0 < s.regM.toNat) : FftOk s :=
  ⟨by simp [hph], fun _ => ⟨hS, hI, hM⟩, by simp [hph], fun hd => absurd hd hdone⟩

theorem fftOk_of_bfly {s : State} (hph : s.fftPh = .bfly) (hdone : s.fftDone ≠ true) (hS : s.regS.toNat < 7)
    (hM : s.regM.toNat < halfSpan s.regS.toNat) (hI : s.regI.toNat % (2 * halfSpan s.regS.toNat) = s.regM.toNat) :
    FftOk s :=
  ⟨by simp [hph], by simp [hph], fun _ => ⟨hS, hM, hI⟩, fun hd => absurd hd hdone⟩

/-- A step that changes only the FFT unit keeps the invariant if it keeps the unit and its memories in order. -/
theorem MachineOk.of_fft {s : State} (h : MachineOk s) (fr fi : Memory 16) (ph : FftPhase) (done : Bool) (S : BitVec 3)
    (M I : BitVec 7)
    (hmem : MemoriesOk { s with fr := fr, fi := fi })
    (hfft : FftOk { s with fftPh := ph, fftDone := done, regS := S, regM := M, regI := I }) :
    MachineOk { s with fr := fr, fi := fi, fftPh := ph, fftDone := done, regS := S, regM := M, regI := I } :=
  ⟨h.config, hmem, hfft, h.streamer, h.receiver, h.raster, h.response⟩

theorem FftOk.not_done {s : State} (h : FftOk s) (hph : s.fftPh ≠ .idle) : s.fftDone ≠ true :=
  fun hd => hph (h.2.2.2 hd)

theorem stepAgent_fft_of_reorder {s : State} (hph : s.fftPh = .reorder) :
    stepAgent .fft s = .next (swapAdvance { s with fr := swapCells s.regM s.fr }) := by
  simp [stepAgent, stepFft, execFftSwap, whenEnabled, swapEnabled, hph]

theorem stepAgent_fft_of_bfly {s : State} (h : MachineOk s) (hph : s.fftPh = .bfly) :
    stepAgent .fft s = .next (bflyAdvance (bflyCells s)) := by
  obtain ⟨hS, hM, hI⟩ := h.fft.at_bfly hph
  obtain ⟨hj, hangle⟩ := butterfly_indices_lt hS hM hI s.regI.isLt
  have hcells : ∀ p ∈ [(Space.fr, s.regI.toNat + halfSpan s.regS.toNat),
      (Space.sin, angleIndex s.regS.toNat s.regM.toNat + 32)], p.2 < spaceSize s.cfg p.1 := by
    simp only [List.forall_mem_cons]
    exact ⟨hj, hangle, by simp⟩
  simp only [stepAgent, stepFft, execFftBfly, hph, requireCells_of_lt hcells]
  exact whenEnabled_of_enabled (by simp [bflyEnabled, hph]) ..

/-- One index of the reorder phase, the last one included (rule R126). -/
theorem properStep_of_reorder {s : State} (h : MachineOk s) (hph : s.fftPh = .reorder) :
    ProperStep .fft s (swapAdvance { s with fr := swapCells s.regM s.fr }) := by
  obtain ⟨hS, hI, hM⟩ := h.fft.at_reorder hph
  have hdone := h.fft.not_done (by simp [hph])
  have hmem : MemoriesOk { s with fr := swapCells s.regM s.fr } := ⟨h.memories.swap s.regM, h.memories.2⟩
  have hlt : s.regM.toNat < 128 := s.regM.isLt
  have hnow : stepsLeft .fft s = 128 - s.regM.toNat + 448 := by simp only [stepsLeft, fftStepsLeft, hph]
  rcases swapAdvance_cases { s with fr := swapCells s.regM s.fr } with ⟨-, heq⟩ | ⟨hnot, heq⟩ <;> rw [heq]
  · have hfew : butterfliesLeft 0 0 0 < stepsLeft .fft s := by rw [hnow, butterfliesLeft_zero]; omega
    exact ⟨h.of_fft _ _ _ _ _ _ _ hmem (fftOk_of_bfly rfl hdone (Nat.succ_pos 6) Nat.one_pos rfl), rfl, rfl, hfew⟩
  · have hsucc : (s.regM + 1).toNat = s.regM.toNat + 1 := by
      change s.regM ≠ 127 at hnot
      bv_omega
    refine ⟨h.of_fft _ _ _ _ _ _ _ hmem (fftOk_of_reorder hph hdone hS hI (hsucc ▸ Nat.succ_pos _)), rfl, rfl, ?_⟩
    rw [hnow]
    simp only [stepsLeft, fftStepsLeft, hph, hsucc]
    omega

/-- One butterfly, whichever of the four advances of rule R127 follows it. -/
theorem properStep_of_bfly {s : State} (h : MachineOk s) (hph : s.fftPh = .bfly) :
    ProperStep .fft s (bflyAdvance (bflyCells s)) := by
  obtain ⟨hS, hM, hI⟩ := h.fft.at_bfly hph
  have hmem : MemoriesOk (bflyCells s) := h.memories.bflyCells (butterfly_indices_lt hS hM hI s.regI.isLt).1
  have hdone := h.fft.not_done (by simp [hph])
  obtain ⟨hspan, hspan64⟩ := halfSpan_pos_and_le hS
  have hnow : stepsLeft .fft s = butterfliesLeft s.regS.toNat s.regM.toNat s.regI.toNat := by
    simp only [stepsLeft, fftStepsLeft, hph]
  have hbusy (S : BitVec 3) (M I : BitVec 7) (hS' : S.toNat < 7) (hM' : M.toNat < halfSpan S.toNat)
      (hI' : I.toNat % (2 * halfSpan S.toNat) = M.toNat)
      (hfew : butterfliesLeft S.toNat M.toNat I.toNat < butterfliesLeft s.regS.toNat s.regM.toNat s.regI.toNat) :
      ProperStep .fft s { bflyCells s with regS := S, regM := M, regI := I } := by
    refine ⟨h.of_fft _ _ _ _ _ _ _ hmem (fftOk_of_bfly hph hdone hS' hM' hI'), rfl, rfl, ?_⟩
    rw [hnow]
    simpa only [stepsLeft, fftStepsLeft, bflyCells, hph] using hfew
  rcases bflyAdvance_cases (bflyCells s) with
    ⟨hpos, heq⟩ | ⟨-, htw, heq⟩ | ⟨-, -, hst, heq⟩ | ⟨-, -, -, heq⟩ <;> rw [heq]
  · have hnext : (BitVec.ofNat 7 (s.regI.toNat + 2 * halfSpan s.regS.toNat)).toNat =
        s.regI.toNat + 2 * halfSpan s.regS.toNat := Nat.mod_eq_of_lt hpos
    refine hbusy s.regS s.regM (BitVec.ofNat 7 (s.regI.toNat + 2 * halfSpan s.regS.toNat)) hS hM ?_ ?_ <;> rw [hnext]
    · rw [Nat.add_mod_right, hI]
    · exact butterfliesLeft_next_position hS hpos
  · change s.regM.toNat + 1 < halfSpan s.regS.toNat at htw
    have hsucc : (s.regM + 1).toNat = s.regM.toNat + 1 := toNat_add_one (by omega)
    refine hbusy s.regS (s.regM + 1) (s.regM + 1) hS (hsucc ▸ htw) (Nat.mod_eq_of_lt (by omega)) ?_
    rw [hsucc]
    exact butterfliesLeft_next_twiddle hS htw _
  · change s.regS.toNat < 6 at hst
    have hsucc : (s.regS + 1).toNat = s.regS.toNat + 1 := toNat_add_one (by omega)
    refine hbusy (s.regS + 1) 0 0 (by omega) ?_ (Nat.zero_mod _) ?_ <;> rw [hsucc]
    · exact (halfSpan_pos_and_le (by omega)).1
    · exact butterfliesLeft_next_stage hst _ _
  · refine ⟨h.of_fft _ _ _ _ _ _ _ hmem (fftOk_of_idle rfl ⟨rfl, rfl, rfl⟩), rfl, rfl, ?_⟩
    rw [hnow]
    exact Nat.succ_pos _

end Sys2Proof.Machine
end

section
/-! PROOFS. Enabled steps of the Streamer and the link are proper steps. -/

namespace Sys2Proof.Machine

/-! ## The Streamer -/

theorem StreamerOk.at_idle {s : State} (h : StreamerOk s) (hph : s.strPh = .idle) :
    s.thr = none ∧ s.tsr = none ∧ s.regBy = 0 ∧ (s.regCh = 0 ∨ s.regCh = 8) := h.2.1 hph

theorem StreamerOk.at_waitrr {s : State} (h : StreamerOk s) (hph : s.strPh = .waitrr) :
    s.regBy = 0 ∧ s.regCh.toNat < 8 := h.2.2.1 hph

theorem StreamerOk.at_push {s : State} (h : StreamerOk s) (hph : s.strPh = .push) : s.regCh.toNat < 8 := h.2.2.2.1 hph

theorem StreamerOk.at_waittxc {s : State} (h : StreamerOk s) (hph : s.strPh = .waittxc) :
    s.regBy = 0 ∧ s.regCh = 8 := h.2.2.2.2 hph

theorem streamerOk_of_idle {s : State} (hph : s.strPh = .idle) (hdr : s.dr = false) (hthr : s.thr = none)
    (htsr : s.tsr = none) (hBy : s.regBy = 0) (hCh : s.regCh = 0 ∨ s.regCh = 8) : StreamerOk s :=
  ⟨by simp [hph, hdr], fun _ => ⟨hthr, htsr, hBy, hCh⟩, by simp [hph], by simp [hph], by simp [hph]⟩

theorem streamerOk_of_waitrr {s : State} (hph : s.strPh = .waitrr) (hdr : s.dr = true) (hBy : s.regBy = 0)
    (hCh : s.regCh.toNat < 8) : StreamerOk s :=
  ⟨by simp [hph, hdr], by simp [hph], fun _ => ⟨hBy, hCh⟩, by simp [hph], by simp [hph]⟩

theorem streamerOk_of_push {s : State} (hph : s.strPh = .push) (hdr : s.dr = true) (hCh : s.regCh.toNat < 8) :
    StreamerOk s :=
  ⟨by simp [hph, hdr], by simp [hph], by simp [hph], fun _ => hCh, by simp [hph]⟩

theorem streamerOk_of_waittxc {s : State} (hph : s.strPh = .waittxc) (hdr : s.dr = true) (hBy : s.regBy = 0)
    (hCh : s.regCh = 8) : StreamerOk s :=
  ⟨by simp [hph, hdr], by simp [hph], by simp [hph], by simp [hph], fun _ => ⟨hBy, hCh⟩⟩

theorem StreamerOk.dr_of_busy {s : State} (h : StreamerOk s) (hph : s.strPh ≠ .idle) : s.dr = true := h.1.2 hph

theorem stepAgent_str_of_waitrr {s : State} (hph : s.strPh = .waitrr) (hrr : s.rr = true) :
    stepAgent .str s = .next { s with strPh := .push } := by
  simp [stepAgent, stepStr, execStrWaitrr, whenEnabled, waitrrEnabled, hph, hrr]

theorem stepAgent_str_of_push {s : State} (h : StreamerOk s) (hph : s.strPh = .push) (hthr : s.thr = none) :
    stepAgent .str s = .next (pushAdvance { s with thr := some (s.txbins.read (pushIndex s)) }) := by
  have hcell : ∀ p ∈ [(Space.txbins, pushIndex s)], p.2 < spaceSize s.cfg p.1 := by
    have hCh := h.at_push hph
    have hBy : s.regBy.toNat < 4 := s.regBy.isLt
    simp only [List.forall_mem_singleton, pushIndex, spaceSize, numBins]
    omega
  simp only [stepAgent, stepStr, execStrPush, hph, requireCells_of_lt hcell]
  exact whenEnabled_of_enabled (by simp [pushEnabled, txe, hph, hthr]) ..

theorem stepAgent_str_of_waittxc {s : State} (hph : s.strPh = .waittxc) (hthr : s.thr = none) (htsr : s.tsr = none) :
    stepAgent .str s = .next { s with dr := false, strPh := .idle } := by
  simp [stepAgent, stepStr, execStrFin, whenEnabled, finEnabled, txc, hph, hthr, htsr]

theorem properStep_of_waitrr {s : State} (h : MachineOk s) (hph : s.strPh = .waitrr) :
    ProperStep .str s { s with strPh := .push } := by
  obtain ⟨-, hCh⟩ := h.streamer.at_waitrr hph
  have hdr := h.streamer.dr_of_busy (by simp [hph])
  refine ⟨⟨h.config, h.memories, h.fft, streamerOk_of_push rfl hdr hCh, h.receiver, h.raster, h.response⟩, rfl, rfl, ?_⟩
  simp [stepsLeft, strStepsLeft, hph]

/-- A push, within a chunk or at the end of one (rule R148). -/
theorem properStep_of_push {s : State} (h : MachineOk s) (hph : s.strPh = .push) (hthr : s.thr = none) (b : Byte) :
    ProperStep .str s (pushAdvance { s with thr := some b }) := by
  have hCh := h.streamer.at_push hph
  have hdr := h.streamer.dr_of_busy (by simp [hph])
  have hsucc : (s.regCh + 1).toNat = s.regCh.toNat + 1 := toNat_add_one (by omega)
  rcases pushAdvance_cases { s with thr := some b } with ⟨-, heq⟩ | ⟨-, hmore, heq⟩ | ⟨-, hlast, heq⟩ <;>
    rw [heq] <;>
    refine ⟨⟨h.config, h.memories, h.fft, ?_, h.receiver, h.raster, h.response⟩, rfl, rfl,
      by simp [stepsLeft, strStepsLeft, hph, hthr]⟩
  · exact streamerOk_of_push hph hdr hCh
  · refine streamerOk_of_waitrr rfl hdr rfl ?_
    have hne : (s.regCh + 1).toNat ≠ 8 := fun he => hmore (BitVec.eq_of_toNat_eq he)
    change (s.regCh + 1).toNat < 8
    omega
  · exact streamerOk_of_waittxc rfl hdr rfl hlast

theorem properStep_of_waittxc {s : State} (h : MachineOk s) (hph : s.strPh = .waittxc) (hthr : s.thr = none)
    (htsr : s.tsr = none) : ProperStep .str s { s with dr := false, strPh := .idle } := by
  obtain ⟨hBy, hCh⟩ := h.streamer.at_waittxc hph
  refine ⟨⟨h.config, h.memories, h.fft, streamerOk_of_idle rfl rfl hthr htsr hBy (.inr hCh), h.receiver, h.raster,
    h.response⟩, rfl, rfl, ?_⟩
  simp [stepsLeft, strStepsLeft, hph]

/-! ## The link -/

/-- LNK moves bytes only while the Streamer is busy, and then nothing depends on where they are. -/
theorem StreamerOk.of_moved_bytes {s : State} (h : StreamerOk s) (hph : s.strPh ≠ .idle) (thr tsr : Option Byte) :
    StreamerOk { s with thr := thr, tsr := tsr } :=
  ⟨h.1, fun hidle => absurd hidle hph, h.2.2.1, h.2.2.2.1, h.2.2.2.2⟩

theorem stepAgent_lnk_of_tsr {s : State} {b : Byte} (htsr : s.tsr = some b) :
    stepAgent .lnk s = .next { arrive b s with tsr := none } := by
  simp [stepAgent, stepLnk, execLnkXfer, htsr]

theorem stepAgent_lnk_of_thr {s : State} (htsr : s.tsr = none) (hthr : s.thr.isSome = true) :
    stepAgent .lnk s = .next { s with tsr := s.thr, thr := none } := by
  simp [stepAgent, stepLnk, execLnkLoad, whenEnabled, loadEnabled, htsr, hthr]

theorem properStep_of_xfer {s : State} (h : MachineOk s) {b : Byte} (htsr : s.tsr = some b) :
    ProperStep .lnk s { arrive b s with tsr := none } := by
  have hbusy : s.strPh ≠ .idle := fun hidle => by simp [(h.streamer.at_idle hidle).2.1] at htsr
  have hstr := h.streamer.of_moved_bytes hbusy s.thr none
  rcases arrive_cases b s with ⟨hroom, heq⟩ | ⟨-, heq⟩ <;> rw [heq]
  · have hlen : (s.rxq ++ [b]).length ≤ s.cfg.rxDepth := by simpa using hroom
    refine ⟨⟨h.config, h.memories, h.fft, hstr, ⟨hlen, h.receiver.2⟩, h.raster, h.response⟩, rfl, rfl, ?_⟩
    simp [stepsLeft, lnkStepsLeft, htsr]
  · refine ⟨⟨h.config, h.memories, h.fft, hstr, h.receiver, h.raster, h.response⟩, rfl, rfl, ?_⟩
    simp [stepsLeft, lnkStepsLeft, htsr]

theorem properStep_of_load {s : State} (h : MachineOk s) (htsr : s.tsr = none) (hthr : s.thr.isSome = true) :
    ProperStep .lnk s { s with tsr := s.thr, thr := none } := by
  have hbusy : s.strPh ≠ .idle := fun hidle => by simp [(h.streamer.at_idle hidle).1] at hthr
  obtain ⟨b, hb⟩ := Option.isSome_iff_exists.1 hthr
  refine ⟨⟨h.config, h.memories, h.fft, h.streamer.of_moved_bytes hbusy none s.thr, h.receiver, h.raster, h.response⟩,
    rfl, rfl, ?_⟩
  simp [stepsLeft, lnkStepsLeft, htsr, hb]

end Sys2Proof.Machine
end

section
/-! PROOFS. Enabled steps of the sink unit, raster and Receiver, are proper steps. -/

namespace Sys2Proof.Machine

/-! ## The sink unit -/

/-- The inequalities of a valid parameter set that the raster's arithmetic needs (rules R10, R11). -/
theorem config_bounds_of_valid {c : Config} (h : c.valid = true) :
    c.lineFirst ≤ c.visTop ∧ c.visTop < c.visBot ∧ c.visBot ≤ c.vsStart ∧ c.vsStart < c.vsEnd ∧ c.vsEnd < c.wrapAt ∧
      c.wrapAt < 512 ∧ 0 < c.bpr ∧ c.bpr < 256 := by
  simp only [Config.valid, Bool.and_eq_true, decide_eq_true_eq] at h
  omega

/-- The phases in which the Receiver is inside a chunk (rules R154 to R157). -/
def readsChunk (p : SnkPhase) : Prop := p = .rrd0 ∨ p = .rrdyoff ∨ p = .rrdn

/-- Outside a chunk the Receiver's registers do not depend on the phase. -/
theorem ReceiverOk.of_outside_chunk {s : State} (h : ReceiverOk s) (hout : ¬readsChunk s.snkPh) {p : SnkPhase}
    (hp : ¬readsChunk p) : ReceiverOk { s with snkPh := p } := by
  simp only [readsChunk, not_or] at hout hp
  obtain ⟨h0, hoff, hn⟩ := hout
  obtain ⟨hp0, hpoff, hpn⟩ := hp
  obtain ⟨hlen, hcnt, hmod, hrr, hrb, -⟩ := h
  exact ⟨hlen, hcnt, hmod, by simpa [h0, hoff, hp0, hpoff] using hrr, fun _ _ => hrb hoff hn, fun he => absurd he hp0,
    fun he => absurd he hpoff, fun he => absurd he hpn⟩

/-- After the sync pulse and outside a row, an idle or receiving sink has its raster registers in order (rules R184,
R186). -/
theorem RasterOk.of_receiving {s : State} (h : RasterOk s)
    (hph : s.snkPh = .rpoll ∨ s.snkPh = .rrd0 ∨ s.snkPh = .rrdyoff ∨ s.snkPh = .rrdn) {p : SnkPhase} (hp : p ≠ .emit) :
    RasterOk { s with snkPh := p } := by
  obtain ⟨hlo, hhi, hpol, -, hcol, hvis, hsync⟩ := h
  exact ⟨hlo, hhi, hpol, fun he => absurd he hp, fun _ => hcol (by rintro he; simp [he] at hph), fun _ => hvis hph,
    fun _ _ => hsync (by rintro he; simp [he] at hph) (by rintro he; simp [he] at hph)⟩

theorem RasterOk.at_emit {s : State} (h : RasterOk s) (hph : s.snkPh = .emit) :
    visibleLine s.cfg s.line.toNat = true ∧ s.col.toNat < s.cfg.bpr := h.2.2.2.1 hph

theorem stepAgent_snk_of_tick {s : State} (hph : s.snkPh = .idle) (htick : s.tickPend = true) :
    stepAgent .snk s = .next (s.enterInvocation.driveSync s.pol) := by
  simp [stepAgent, stepSnk, execRasSyncon, whenEnabled, synconEnabled, hph, htick]

theorem stepAgent_snk_of_count {s : State} (hph : s.snkPh = .count) :
    stepAgent .snk s = .next { s with line := countedLine s, pol := countedPol s, snkPh := .syncoff } := by
  simp [stepAgent, stepSnk, execRasCount, whenEnabled, countEnabled, hph]

theorem stepAgent_snk_of_syncoff {s : State} (hph : s.snkPh = .syncoff) :
    stepAgent .snk s = .next
      { s.driveSync (!s.pol) with
        snkPh := afterSyncoff s, col := if visibleLine s.cfg s.line.toNat then 0 else s.col } := by
  simp [stepAgent, stepSnk, execRasSyncoff, whenEnabled, syncoffEnabled, hph]

theorem visibleLine_iff (c : Config) (l : Nat) : visibleLine c l = true ↔ c.visTop ≤ l ∧ l < c.visBot := by
  simp [visibleLine]

/-- The byte of the row that RAS.EMIT sends is a framebuffer byte (rule R65). -/
theorem emitIndex_lt {s : State} (htop : s.cfg.visTop ≤ s.line.toNat) (hbot : s.line.toNat < s.cfg.visBot)
    (hcol : s.col.toNat < s.cfg.bpr) : emitIndex s < s.cfg.fbSize := by
  have hrow : s.line.toNat - s.cfg.visTop + 1 ≤ s.cfg.visLines := by
    rw [Config.visLines]
    omega
  calc emitIndex s < (s.line.toNat - s.cfg.visTop) * s.cfg.bpr + s.cfg.bpr := Nat.add_lt_add_left hcol _
    _ = (s.line.toNat - s.cfg.visTop + 1) * s.cfg.bpr := (Nat.succ_mul ..).symm
    _ ≤ s.cfg.fbSize := Nat.mul_le_mul_right _ hrow

theorem stepAgent_snk_of_emit {s : State} (h : RasterOk s) (hph : s.snkPh = .emit) :
    stepAgent .snk s = .next (emitAdvance (s.shiftOut (s.fb.read (emitIndex s)))) := by
  obtain ⟨hvis, hcol⟩ := h.at_emit hph
  obtain ⟨htop, hbot⟩ := (visibleLine_iff ..).1 hvis
  have hcell : ∀ p ∈ [(Space.fb, emitIndex s)], p.2 < spaceSize s.cfg p.1 := by
    simpa only [List.forall_mem_singleton, spaceSize] using emitIndex_lt htop hbot hcol
  simp only [stepAgent, stepSnk, execRasEmit, hph, requireCells_of_lt hcell, if_neg (Nat.not_lt.2 htop)]
  exact whenEnabled_of_enabled (by simp [emitEnabled, hph]) ..

theorem stepAgent_snk_of_rpoll {s : State} (hph : s.snkPh = .rpoll) :
    stepAgent .snk s = .next (if s.dr && decide (s.rxcnt.toNat < 32) then { s with rr := true, rb := 0, snkPh := .rrd0 }
      else s.endInvocation) := by
  simp [stepAgent, stepSnk, execRcvPoll, whenEnabled, pollEnabled, hph]

/-- The state in which the head of `RXQ` has gone to `RXBINS[RXCNT]` (rules R155, R157). -/
def byteTaken (b : Byte) (rest : List Byte) (s : State) : State :=
  { s with rxq := rest, rxbins := s.rxbins.write s.rxcnt.toNat b, rxcnt := s.rxcnt + 1 }

theorem takeByte_of_cons {s : State} {b : Byte} {rest : List Byte} (hq : s.rxq = b :: rest) (hcnt : s.rxcnt.toNat < 32)
    (go : State → Result) : takeByte s go = go (byteTaken b rest s) := by
  have hcell : ∀ p ∈ [(Space.rxbins, s.rxcnt.toNat)], p.2 < spaceSize s.cfg p.1 := by
    simpa only [List.forall_mem_singleton, spaceSize] using hcnt
  simp only [takeByte, hq, requireCells_of_lt hcell, byteTaken]

theorem rxc_of_cons {s : State} {b : Byte} {rest : List Byte} (hq : s.rxq = b :: rest) : rxc s = true := by
  simp [rxc, hq]

/-- A chunk is only begun in a frame that is not complete. -/
theorem ReceiverOk.at_rrd0 {s : State} (h : ReceiverOk s) (hph : s.snkPh = .rrd0) : s.rxcnt.toNat < 32 :=
  h.2.2.2.2.2.1 hph

/-- Taking a byte makes room in the queue. -/
theorem ReceiverOk.rest_le {s : State} (h : ReceiverOk s) {b : Byte} {rest : List Byte} (hq : s.rxq = b :: rest) :
    rest.length ≤ s.cfg.rxDepth := by
  have hlen : s.rxq.length ≤ s.cfg.rxDepth := h.1
  rw [hq, List.length_cons] at hlen
  omega

theorem stepAgent_snk_of_rrd0 {s : State} {b : Byte} {rest : List Byte} (h : ReceiverOk s) (hph : s.snkPh = .rrd0)
    (hq : s.rxq = b :: rest) :
    stepAgent .snk s = .next { byteTaken b rest s with rb := 1, snkPh := .rrdyoff } := by
  have hcnt := h.at_rrd0 hph
  simp only [stepAgent, stepSnk, execRcvRd0, hph, takeByte_of_cons hq hcnt]
  exact whenEnabled_of_enabled (by simp [rd0Enabled, hph, rxc_of_cons hq]) ..

theorem stepAgent_snk_of_rrdyoff {s : State} (hph : s.snkPh = .rrdyoff) :
    stepAgent .snk s = .next { s with rr := false, snkPh := .rrdn } := by
  simp [stepAgent, stepSnk, execRcvRdyoff, whenEnabled, rdyoffEnabled, hph]

/-- Inside a chunk, after its first byte, the frame is not complete. -/
theorem ReceiverOk.at_rrdn {s : State} (h : ReceiverOk s) (hph : s.snkPh = .rrdn) :
    s.rxcnt.toNat < 32 ∧ 0 < s.rb.toNat ∧ s.rb.toNat < 4 := by
  obtain ⟨-, hcnt, hmod, -, -, -, -, hrb⟩ := h
  have hpos : s.rb.toNat ≠ 0 := fun he => hrb hph (BitVec.eq_of_toNat_eq he)
  omega

theorem stepAgent_snk_of_rrdn {s : State} {b : Byte} {rest : List Byte} (h : ReceiverOk s) (hph : s.snkPh = .rrdn)
    (hq : s.rxq = b :: rest) :
    stepAgent .snk s = .next (if s.rb + 1 = 4 then { byteTaken b rest s with rb := 0, snkPh := .idle }
      else { byteTaken b rest s with rb := s.rb + 1 }) := by
  simp only [stepAgent, stepSnk, execRcvRdn, hph, takeByte_of_cons hq (h.at_rrdn hph).1]
  exact whenEnabled_of_enabled (by simp [rdnEnabled, hph, rxc_of_cons hq]) ..

/-- With the same pending bit only the running invocation's steps count. -/
theorem stepsLeft_snk_lt {s t : State} (htick : t.tickPend = s.tickPend)
    (h : invocationStepsLeft t < invocationStepsLeft s) : stepsLeft .snk t < stepsLeft .snk s := by
  simp only [stepsLeft, htick]
  omega

/-! ### The raster's steps -/

theorem properStep_of_tick {s : State} (h : MachineOk s) (hph : s.snkPh = .idle) (htick : s.tickPend = true) :
    ProperStep .snk s (s.enterInvocation.driveSync s.pol) := by
  have hrcv : ReceiverOk { s with snkPh := .count } :=
    h.receiver.of_outside_chunk (by simp [readsChunk, hph]) (by simp [readsChunk])
  obtain ⟨hlo, hhi, hpol, -, hcol, -⟩ := h.raster
  have hras : RasterOk (s.enterInvocation.driveSync s.pol) :=
    ⟨hlo, hhi, hpol, by simp, fun _ => hcol (by simp [hph]), by simp, by simp⟩
  refine ⟨⟨h.config, h.memories, h.fft, h.streamer, hrcv, hras, h.response⟩, rfl, rfl, ?_⟩
  simp [stepsLeft, invocationStepsLeft, hph, htick]

theorem bumpedLine_eq {s : State} (hlt : s.line.toNat + 1 < 512) : bumpedLine s = s.line.toNat + 1 := by
  rw [bumpedLine, BitVec.toNat_add]
  exact Nat.mod_eq_of_lt hlt

theorem countedLine_toNat {s : State} (hc : s.cfg.valid = true) (hlt : s.line.toNat < s.cfg.wrapAt) :
    (countedLine s).toNat = if s.line.toNat + 1 = s.cfg.wrapAt then s.cfg.lineFirst else s.line.toNat + 1 := by
  have hb := config_bounds_of_valid hc
  have hbump : bumpedLine s = s.line.toNat + 1 := bumpedLine_eq (by omega)
  rw [countedLine, hbump]
  split
  · exact Nat.mod_eq_of_lt (by omega)
  · exact hbump

/-- The polarity stays true exactly within the vertical-sync region (rules R183, R186). -/
theorem countedPol_iff {s : State} (hc : s.cfg.valid = true) (hr : RasterOk s) :
    countedPol s = true ↔ s.cfg.vsStart ≤ (countedLine s).toNat ∧ (countedLine s).toNat < s.cfg.vsEnd := by
  obtain ⟨hlo, hhi, hpol, -⟩ := hr
  have hb := config_bounds_of_valid hc
  rw [countedLine_toNat hc hhi, countedPol, bumpedLine_eq (by omega)]
  by_cases hend : s.line.toNat + 1 = s.cfg.vsEnd
  · simp only [hend, if_true]
    split_ifs <;> simp; omega
  · by_cases hstart : s.line.toNat + 1 = s.cfg.vsStart
    · rw [if_neg hend, if_pos hstart]
      split_ifs <;> simp <;> omega
    · rw [if_neg hend, if_neg hstart, hpol]
      split_ifs <;> omega

theorem properStep_of_count {s : State} (h : MachineOk s) (hph : s.snkPh = .count) :
    ProperStep .snk s { s with line := countedLine s, pol := countedPol s, snkPh := .syncoff } := by
  have hrcv : ReceiverOk { s with snkPh := .syncoff } :=
    h.receiver.of_outside_chunk (by simp [readsChunk, hph]) (by simp [readsChunk])
  have hpol := countedPol_iff h.config h.raster
  obtain ⟨hlo, hhi, -, -, hcol, -⟩ := h.raster
  have hb := config_bounds_of_valid h.config
  have hline := countedLine_toNat h.config hhi
  have hrange : s.cfg.lineFirst ≤ (countedLine s).toNat ∧ (countedLine s).toNat < s.cfg.wrapAt := by
    rw [hline]
    split <;> omega
  have hras : RasterOk { s with line := countedLine s, pol := countedPol s, snkPh := .syncoff } :=
    ⟨hrange.1, hrange.2, hpol, by simp, fun _ => hcol (by simp [hph]), by simp, by simp⟩
  refine ⟨⟨h.config, h.memories, h.fft, h.streamer, hrcv, hras, h.response⟩,
    rfl, rfl, stepsLeft_snk_lt rfl ?_⟩
  simp [invocationStepsLeft, hph]

/-- The three targets of RAS.SYNCOFF: a row on a visible line, else the end of the invocation or the Receiver (R184). -/
theorem afterSyncoff_cases (s : State) :
    (visibleLine s.cfg s.line.toNat = true ∧ afterSyncoff s = .emit) ∨
    (visibleLine s.cfg s.line.toNat = false ∧ (afterSyncoff s = .idle ∨ afterSyncoff s = .rpoll)) := by
  unfold afterSyncoff
  split_ifs with hvis <;> simp [hvis]

theorem properStep_of_syncoff {s : State} (h : MachineOk s) (hph : s.snkPh = .syncoff) :
    ProperStep .snk s
      { s.driveSync (!s.pol) with
        snkPh := afterSyncoff s, col := if visibleLine s.cfg s.line.toNat then 0 else s.col } := by
  have hrcv : ReceiverOk { s with snkPh := afterSyncoff s } := by
    refine h.receiver.of_outside_chunk (by simp [readsChunk, hph]) ?_
    rcases afterSyncoff_cases s with ⟨-, hp⟩ | ⟨-, hp | hp⟩ <;> simp [readsChunk, hp]
  obtain ⟨hlo, hhi, hpol, -, hcol, -⟩ := h.raster
  have hcol0 : (if visibleLine s.cfg s.line.toNat then 0 else s.col) = 0 := by
    rw [hcol (by simp [hph]), ite_self]
  obtain ⟨-, -, -, -, -, -, hbpr, hbpr256⟩ := config_bounds_of_valid h.config
  rw [hcol0]
  rcases afterSyncoff_cases s with ⟨hvis, hp⟩ | ⟨hvis, hp | hp⟩ <;> rw [hp] at hrcv ⊢
  · refine ⟨⟨h.config, h.memories, h.fft, h.streamer, hrcv,
      ⟨hlo, hhi, hpol, fun _ => ⟨hvis, hbpr⟩, by simp, by simp, by simp⟩, h.response⟩,
      rfl, rfl, stepsLeft_snk_lt rfl ?_⟩
    simp only [invocationStepsLeft, hph, State.driveSync_cfg]
    omega
  · refine ⟨⟨h.config, h.memories, h.fft, h.streamer, hrcv,
      ⟨hlo, hhi, hpol, by simp, fun _ => rfl, by simp, by simp⟩, h.response⟩,
      rfl, rfl, stepsLeft_snk_lt rfl ?_⟩
    simp [invocationStepsLeft, hph]
  · refine ⟨⟨h.config, h.memories, h.fft, h.streamer, hrcv,
      ⟨hlo, hhi, hpol, by simp, fun _ => rfl, fun _ => hvis, by simp⟩, h.response⟩,
      rfl, rfl, stepsLeft_snk_lt rfl ?_⟩
    simp [invocationStepsLeft, hph]

/-- A byte of a row, the last one included (rule R185). -/
theorem properStep_of_emit {s : State} (h : MachineOk s) (hph : s.snkPh = .emit) (b : Byte) :
    ProperStep .snk s (emitAdvance (s.shiftOut b)) := by
  obtain ⟨hlo, hhi, hpol, hemit, -, -, hsync⟩ := h.raster
  obtain ⟨hvis, hcol⟩ := hemit hph
  have hsync' := hsync (by simp [hph]) (by simp [hph])
  obtain ⟨-, -, -, -, -, -, -, hbpr256⟩ := config_bounds_of_valid h.config
  rcases emitAdvance_cases (s.shiftOut b) with ⟨-, heq⟩ | ⟨hmore, heq⟩ <;> rw [heq]
  · have hrcv : ReceiverOk { s with snkPh := .idle } :=
      h.receiver.of_outside_chunk (by simp [readsChunk, hph]) (by simp [readsChunk])
    refine ⟨⟨h.config, h.memories, h.fft, h.streamer, hrcv,
      ⟨hlo, hhi, hpol, by simp, fun _ => rfl, by simp, fun _ _ => hsync'⟩, h.response⟩,
      rfl, rfl, stepsLeft_snk_lt rfl ?_⟩
    simp only [invocationStepsLeft, hph]
    omega
  · change s.col.toNat ≠ s.cfg.bpr - 1 at hmore
    have hsucc : (s.col + 1).toNat = s.col.toNat + 1 := toNat_add_one (by omega)
    have hlt : (s.col + 1).toNat < s.cfg.bpr := by omega
    refine ⟨⟨h.config, h.memories, h.fft, h.streamer, h.receiver,
      ⟨hlo, hhi, hpol, fun _ => ⟨hvis, hlt⟩, fun hne => absurd hph hne, by simp [hph], fun _ _ => hsync'⟩, h.response⟩,
      rfl, rfl, stepsLeft_snk_lt rfl ?_⟩
    simp only [invocationStepsLeft, hph, State.shiftOut_cfg, State.shiftOut_snkPh,
      State.shiftOut_col, hsucc]
    omega

/-! ### The Receiver's steps -/

theorem MemoriesOk.byteTaken {s : State} (h : MemoriesOk s) (hcnt : s.rxcnt.toNat < 32) (b : Byte) (rest : List Byte) :
    MemoriesOk (byteTaken b rest s) := by
  obtain ⟨hfr, hfi, htx, ⟨hwf, hin⟩, hfb⟩ := h
  exact ⟨hfr, hfi, htx, ⟨Memory.wf_write hwf .., Memory.within_write hin hcnt _⟩, hfb⟩

theorem properStep_of_rpoll {s : State} (h : MachineOk s) (hph : s.snkPh = .rpoll) :
    ProperStep .snk s (if s.dr && decide (s.rxcnt.toNat < 32) then { s with rr := true, rb := 0, snkPh := .rrd0 }
      else s.endInvocation) := by
  split
  · rename_i haccept
    simp only [Bool.and_eq_true, decide_eq_true_eq] at haccept
    obtain ⟨hlen, hcnt, hmod, -, hrb, -⟩ := h.receiver
    have hrb0 := hrb (by simp [hph]) (by simp [hph])
    have hras : RasterOk { s with snkPh := .rrd0 } := h.raster.of_receiving (by simp [hph]) (by simp)
    refine ⟨⟨h.config, h.memories, h.fft, h.streamer,
      ⟨hlen, hcnt, by rw [hmod, hrb0], by simp, fun _ _ => rfl, fun _ => haccept.2, by simp, by simp⟩, hras,
      h.response⟩,
      rfl, rfl, stepsLeft_snk_lt rfl ?_⟩
    simp [invocationStepsLeft, hph]
  · have hrcv : ReceiverOk s.endInvocation :=
      h.receiver.of_outside_chunk (by simp [readsChunk, hph]) (by simp [readsChunk])
    have hras : RasterOk s.endInvocation := h.raster.of_receiving (by simp [hph]) (by simp)
    refine ⟨⟨h.config, h.memories, h.fft, h.streamer, hrcv, hras, h.response⟩,
      rfl, rfl, stepsLeft_snk_lt rfl ?_⟩
    simp [invocationStepsLeft, hph]

theorem properStep_of_rrd0 {s : State} (h : MachineOk s) (hph : s.snkPh = .rrd0) {b : Byte} {rest : List Byte}
    (hq : s.rxq = b :: rest) : ProperStep .snk s { byteTaken b rest s with rb := 1, snkPh := .rrdyoff } := by
  have hcnt := h.receiver.at_rrd0 hph
  obtain ⟨-, -, hmod, hrr, hrb, -⟩ := h.receiver
  have hrb0 := hrb (by simp [hph]) (by simp [hph])
  have hsucc : (s.rxcnt + 1).toNat = s.rxcnt.toNat + 1 := toNat_add_one (by omega)
  have hlen := h.receiver.rest_le hq
  have hcnt' : (s.rxcnt + 1).toNat ≤ 32 := by omega
  have hmod' : (s.rxcnt + 1).toNat % 4 = 1 := by
    simp only [hrb0, BitVec.ofNat_eq_ofNat, BitVec.toNat_ofNat] at hmod
    omega
  have hrr' : s.rr = true := hrr.2 (.inl hph)
  have hras : RasterOk { s with snkPh := .rrdyoff } := h.raster.of_receiving (by simp [hph]) (by simp)
  refine ⟨⟨h.config, h.memories.byteTaken hcnt b rest, h.fft, h.streamer,
    ⟨hlen, hcnt', hmod', by simp [byteTaken, hrr'], by simp, by simp, fun _ => rfl, by simp⟩, hras, h.response⟩,
    rfl, rfl, stepsLeft_snk_lt rfl ?_⟩
  simp [invocationStepsLeft, hph]

theorem properStep_of_rrdyoff {s : State} (h : MachineOk s) (hph : s.snkPh = .rrdyoff) :
    ProperStep .snk s { s with rr := false, snkPh := .rrdn } := by
  obtain ⟨hlen, hcnt, hmod, -, -, -, hrb, -⟩ := h.receiver
  have hrb1 := hrb hph
  have hras : RasterOk { s with snkPh := .rrdn } := h.raster.of_receiving (by simp [hph]) (by simp)
  refine ⟨⟨h.config, h.memories, h.fft, h.streamer,
    ⟨hlen, hcnt, hmod, by simp, by simp, by simp, by simp, fun _ => by simp [hrb1]⟩, hras, h.response⟩,
    rfl, rfl, stepsLeft_snk_lt rfl ?_⟩
  simp [invocationStepsLeft, hph, hrb1]

/-- A further byte of a chunk, the fourth included (rule R157). -/
theorem properStep_of_rrdn {s : State} (h : MachineOk s) (hph : s.snkPh = .rrdn) {b : Byte} {rest : List Byte}
    (hq : s.rxq = b :: rest) :
    ProperStep .snk s (if s.rb + 1 = 4 then { byteTaken b rest s with rb := 0, snkPh := .idle }
      else { byteTaken b rest s with rb := s.rb + 1 }) := by
  obtain ⟨hcnt, hrb0, hrb4⟩ := h.receiver.at_rrdn hph
  obtain ⟨-, -, hmod, hrr, -⟩ := h.receiver
  have hsucc : (s.rxcnt + 1).toNat = s.rxcnt.toNat + 1 := toNat_add_one (by omega)
  have hrbsucc : (s.rb + 1).toNat = s.rb.toNat + 1 := toNat_add_one (by omega)
  have hlen := h.receiver.rest_le hq
  have hcnt' : (s.rxcnt + 1).toNat ≤ 32 := by omega
  have hmem := h.memories.byteTaken hcnt b rest
  have hrr' : s.rr = false := by simpa [hph] using hrr
  split
  · rename_i hlast
    have hrb3 : s.rb.toNat + 1 = 4 := by rw [← hrbsucc, hlast]; rfl
    have hmod' : (s.rxcnt + 1).toNat % 4 = 0 := by omega
    have hras : RasterOk { s with snkPh := .idle } := h.raster.of_receiving (by simp [hph]) (by simp)
    refine ⟨⟨h.config, hmem, h.fft, h.streamer,
      ⟨hlen, hcnt', hmod', by simp [byteTaken, hrr'], fun _ _ => rfl, by simp, by simp, by simp⟩, hras, h.response⟩,
      rfl, rfl, stepsLeft_snk_lt rfl ?_⟩
    simp only [invocationStepsLeft, hph]
    omega
  · rename_i hmore
    have hne : (s.rb + 1).toNat ≠ 4 := fun he => hmore (BitVec.eq_of_toNat_eq he)
    have hmod' : (s.rxcnt + 1).toNat % 4 = (s.rb + 1).toNat := by omega
    have hrb' : s.rb + 1 ≠ 0 := fun he => by
      rw [he] at hrbsucc
      exact Nat.succ_ne_zero _ hrbsucc.symm
    refine ⟨⟨h.config, hmem, h.fft, h.streamer,
      ⟨hlen, hcnt', hmod', by simp [byteTaken, hrr', hph], by simp [byteTaken, hph], by simp [byteTaken, hph],
        by simp [byteTaken, hph], fun _ => hrb'⟩, h.raster, h.response⟩,
      rfl, rfl, stepsLeft_snk_lt rfl ?_⟩
    simp only [invocationStepsLeft, byteTaken, hph, hrbsucc]
    omega

end Sys2Proof.Machine
end

section
/-! PROOFS. Runs of an agent (statements StepWordTakesOneMicroOperation and RunWordRunsToTheHold): in a state that meets
the invariant every enabled agent has a step, and `stepsLeft`, which each step makes smaller, bounds its run below the
model's fuel. -/

namespace Sys2Proof.Machine

/-! ## An enabled agent has a step -/

/-- A sink that is enabled outside idle and the two reading phases has a step of its phase; in those it has a tick or a
byte. -/
theorem exists_properStep_snk {s : State} (h : MachineOk s) (he : agentEnabled .snk s = true) :
    ∃ t, stepAgent .snk s = .next t ∧ ProperStep .snk s t := by
  rw [agentEnabled_snk] at he
  have hbyte (hrxc : rxc s = true) : ∃ b rest, s.rxq = b :: rest := by
    simpa [rxc, List.ne_nil_iff_exists_cons] using hrxc
  cases hph : s.snkPh <;> simp only [hph] at he
  case idle => exact ⟨_, stepAgent_snk_of_tick hph he, properStep_of_tick h hph he⟩
  case count => exact ⟨_, stepAgent_snk_of_count hph, properStep_of_count h hph⟩
  case syncoff => exact ⟨_, stepAgent_snk_of_syncoff hph, properStep_of_syncoff h hph⟩
  case emit => exact ⟨_, stepAgent_snk_of_emit h.raster hph, properStep_of_emit h hph _⟩
  case rpoll => exact ⟨_, stepAgent_snk_of_rpoll hph, properStep_of_rpoll h hph⟩
  case rrd0 =>
    obtain ⟨b, rest, hq⟩ := hbyte he
    exact ⟨_, stepAgent_snk_of_rrd0 h.receiver hph hq, properStep_of_rrd0 h hph hq⟩
  case rrdyoff => exact ⟨_, stepAgent_snk_of_rrdyoff hph, properStep_of_rrdyoff h hph⟩
  case rrdn =>
    obtain ⟨b, rest, hq⟩ := hbyte he
    exact ⟨_, stepAgent_snk_of_rrdn h.receiver hph hq, properStep_of_rrdn h hph hq⟩

/-- No micro-operation faults from a state in order (rule R65), and each keeps the order and makes the run shorter. -/
theorem exists_properStep {a : Agent} {s : State} (h : MachineOk s) (he : agentEnabled a s = true) :
    ∃ t, stepAgent a s = .next t ∧ ProperStep a s t := by
  cases a with
  | fft =>
    rcases (agentEnabled_fft s).1 he with hph | hph
    · exact ⟨_, stepAgent_fft_of_reorder hph, properStep_of_reorder h hph⟩
    · exact ⟨_, stepAgent_fft_of_bfly h hph, properStep_of_bfly h hph⟩
  | str =>
    rcases (agentEnabled_str s).1 he with ⟨hph, hrr⟩ | ⟨hph, hthr⟩ | ⟨hph, hthr, htsr⟩
    · exact ⟨_, stepAgent_str_of_waitrr hph hrr, properStep_of_waitrr h hph⟩
    · exact ⟨_, stepAgent_str_of_push h.streamer hph hthr, properStep_of_push h hph hthr _⟩
    · exact ⟨_, stepAgent_str_of_waittxc hph hthr htsr, properStep_of_waittxc h hph hthr htsr⟩
  | snk => exact exists_properStep_snk h he
  | lnk =>
    rcases (agentEnabled_lnk s).1 he with htsr | ⟨htsr, hthr⟩
    · obtain ⟨b, hb⟩ := Option.isSome_iff_exists.1 htsr
      exact ⟨_, stepAgent_lnk_of_tsr hb, properStep_of_xfer h hb⟩
    · exact ⟨_, stepAgent_lnk_of_thr htsr hthr, properStep_of_load h htsr hthr⟩

/-! ## Runs end at a hold -/

theorem stepsLeft_fft_lt {s : State} (h : FftOk s) : stepsLeft .fft s < runFuel := by
  simp only [stepsLeft, fftStepsLeft, runFuel]
  cases hph : s.fftPh with
  | idle => simp
  | reorder => simp only; omega
  | bfly =>
    obtain ⟨hS, -⟩ := h.at_bfly hph
    generalize s.regS.toNat = stage at hS ⊢
    interval_cases stage <;> simp only [butterfliesLeft, halfSpan, Nat.shiftLeft_eq] <;> omega

/-- The longest runs are a transform and two invocations with a row each. -/
theorem stepsLeft_lt_runFuel {s : State} (h : MachineOk s) (a : Agent) : stepsLeft a s < runFuel := by
  cases a with
  | fft => exact stepsLeft_fft_lt h.fft
  | str =>
    simp only [stepsLeft, strStepsLeft, runFuel]
    cases s.strPh <;> simp only <;> split <;> omega
  | snk =>
    obtain ⟨-, -, -, -, -, -, -, hbpr⟩ := config_bounds_of_valid h.config
    simp only [stepsLeft, invocationStepsLeft, runFuel]
    cases s.snkPh <;> simp only <;> split <;> omega
  | lnk =>
    simp only [stepsLeft, lnkStepsLeft, runFuel]
    cases s.thr <;> cases s.tsr <;> simp

/-- What a run of an agent has done when it answers `(t, n)`: `n` steps from `s` to a state in order that holds, with
the schedule and the response word as they were. -/
structure ProperRun (a : Agent) (s t : State) (n : Nat) : Prop where
  steps : TakesSteps a n s t
  holds : agentEnabled a t = false
  ok : MachineOk t
  turns : t.turns = s.turns
  resp : t.resp = s.resp
  short : n ≤ stepsLeft a s

theorem ProperRun.none {a : Agent} {s : State} (h : MachineOk s) (he : agentEnabled a s = false) :
    ProperRun a s s 0 :=
  ⟨rfl, he, h, rfl, rfl, Nat.zero_le _⟩

theorem ProperRun.step {a : Agent} {s u t : State} {n : Nat} (he : agentEnabled a s = true)
    (hu : stepAgent a s = .next u) (hs : ProperStep a s u) (hr : ProperRun a u t n) : ProperRun a s t (n + 1) :=
  ⟨⟨he, u, hu, hr.steps⟩, hr.holds, hr.ok, hr.turns.trans hs.turns, hr.resp.trans hs.resp,
    Nat.succ_le_of_lt (Nat.lt_of_le_of_lt hr.short hs.fewer)⟩

/-- With fuel for the steps left, a run ends at a hold. -/
theorem runAgent_ends {a : Agent} {fuel : Nat} {s : State} (h : MachineOk s) (hfuel : stepsLeft a s ≤ fuel) :
    ∃ t n, runAgent a fuel s = .next (t, n) ∧ ProperRun a s t n := by
  induction fuel generalizing s with
  | zero =>
    have he : agentEnabled a s = false := by
      by_contra he
      obtain ⟨t, -, ht⟩ := exists_properStep h (Bool.not_eq_false _ ▸ he)
      exact absurd ht.fewer (by omega)
    exact ⟨s, 0, runAgent_zero a s, .none h he⟩
  | succ fuel ih =>
    by_cases he : agentEnabled a s = true
    · obtain ⟨u, hu, hs⟩ := exists_properStep h he
      have hfewer := hs.fewer
      obtain ⟨t, n, hrun, hr⟩ := ih hs.ok (by omega)
      exact ⟨t, n + 1, by rw [runAgent_succ he hu, hrun]; rfl, hr.step he hu hs⟩
    · have he' : agentEnabled a s = false := by simpa using he
      exact ⟨s, 0, runAgent_held he' _, .none h he'⟩

/-- EVT.RUN's run (rule R93). -/
theorem runAgent_runFuel {s : State} (h : MachineOk s) (a : Agent) :
    ∃ t n, runAgent a runFuel s = .next (t, n) ∧ ProperRun a s t n :=
  runAgent_ends h (stepsLeft_lt_runFuel h a).le

/-! ## The words EVT.STEP and EVT.RUN -/

theorem exec_evtStep_of_disabled {a : Agent} {s : State} (he : agentEnabled a s = false) :
    exec (.evtStep a) s = .next { s with resp := some (responseWord .ack 0) } := by
  simp [exec, execEvtStep, he, ackWith, State.respond]

theorem exec_evtStep_of_step {a : Agent} {s t : State} (he : agentEnabled a s = true) (ht : stepAgent a s = .next t) :
    exec (.evtStep a) s = .next { t with resp := some (responseWord .ack 1) } := by
  simp [exec, execEvtStep, he, ht, ackWith, State.respond]

theorem exec_evtRun_of_run {a : Agent} {s t : State} {n : Nat} (hr : runAgent a runFuel s = .next (t, n)) :
    exec (.evtRun a) s = .next { t with resp := some (responseWord .ack (BitVec.ofNat 16 n)) } := by
  simp [exec, execEvtRun, hr, ackWith, State.respond, countData]

/-- A step that makes the run shorter is no hold, so it is the operation selected for the agent. -/
theorem exec_selected_of_properStep {a : Agent} {s t : State} (ht : stepAgent a s = .next t) (hs : ProperStep a s t) :
    ∃ i, decode (agentCode a s) = .ok i ∧ exec i s = .next t := by
  rw [stepAgent_eq_exec] at ht
  split at ht
  · rename_i i hi
    exact ⟨i, hi, ht⟩
  · injection ht with hts
    exact absurd (hts ▸ hs.fewer) (Nat.lt_irrefl _)

/-- Settles O20: the enabled step is proper, hence the selected operation, and the word answers 1 with its state. -/
theorem stepWordTakesOneMicroOperation : Obligations.StepWordTakesOneMicroOperation := by
  refine ⟨fun w hu ho => ?_, fun _ _ => exec_evtStep_of_disabled, fun a s h he => ?_⟩
  · exact (decode_evtStep_word hu ho).trans (decodeAgent_eq ..)
  · obtain ⟨t, ht, hs⟩ := exists_properStep h he
    obtain ⟨i, hi, hexec⟩ := exec_selected_of_properStep ht hs
    exact ⟨i, t, hi, isMicro_of_decode_agentCode hi, hexec, exec_evtStep_of_step he ht⟩

/-- Settles O21: the run within the model's fuel ends at a hold, since `stepsLeft` is below the fuel. -/
theorem runWordRunsToTheHold : Obligations.RunWordRunsToTheHold := by
  refine ⟨fun w hu ho => ?_, fun a s h => ?_⟩
  · exact (decode_evtRun_word hu ho).trans (decodeAgent_eq ..)
  · obtain ⟨t, n, hrun, hr⟩ := runAgent_runFuel h a
    exact ⟨n, t, hr.steps, hr.holds, Nat.lt_of_le_of_lt hr.short (stepsLeft_lt_runFuel h a), exec_evtRun_of_run hrun⟩

end Sys2Proof.Machine
end

section
/-! PROOFS. The opcode table (used by statement PortWordsAreAnswered): a word matches a row exactly when its fields do,
the decoder of a unit accepts exactly the fields of its rows, and what is decoded stands where the table puts it. -/

namespace Sys2Proof

/-! ## Masks -/

theorem formatA_and (u v o p : BitVec 4) (i j : BitVec 8) (d e : Word) :
    formatA u o i d &&& formatA v p j e = formatA (u &&& v) (o &&& p) (i &&& j) (d &&& e) := by
  apply BitVec.eq_of_getLsbD_eq
  intro k hk
  simp only [BitVec.getLsbD_and, getLsbD_formatA]
  split_ifs <;> rfl

theorem formatA_inj {u v o p : BitVec 4} {i j : BitVec 8} {d e : Word} :
    formatA u o i d = formatA v p j e ↔ u = v ∧ o = p ∧ i = j ∧ d = e := by
  refine ⟨fun h => ⟨?_, ?_, ?_, ?_⟩, fun ⟨hu, ho, hi, hd⟩ => by rw [hu, ho, hi, hd]⟩
  · simpa using congrArg unitField h
  · simpa using congrArg opField h
  · simpa using congrArg idxField h
  · simpa using congrArg dataField h

/-- The bits from `k` on are zero exactly in the numbers below `2 ^ k`. -/
theorem and_highMask_eq_zero_iff {n : Nat} (k : Nat) (x : BitVec n) :
    x &&& BitVec.allOnes n <<< k = 0 ↔ x.toNat < 2 ^ k := by
  constructor
  · intro h
    refine Nat.lt_pow_two_of_testBit _ fun i hi => ?_
    by_cases hin : i < n
    · have hbit : x.getLsbD i = true → i < k := by simpa [hin] using congrArg (·.getLsbD i) h
      exact Bool.eq_false_iff.2 fun ht => absurd (hbit ht) (Nat.not_lt.2 hi)
    · exact BitVec.getLsbD_of_ge x i (Nat.le_of_not_lt hin)
  · intro h
    apply BitVec.eq_of_getLsbD_eq
    intro i hin
    by_cases hi : k ≤ i
    · have hbit : x.getLsbD i = false :=
        Nat.testBit_lt_two_pow (Nat.lt_of_lt_of_le h (Nat.pow_le_pow_right (by decide) hi))
      simp [hbit]
    · simp [Nat.lt_of_not_le hi]

theorem and_noneMask_eq_zero_iff {n : Nat} (x : BitVec n) : x &&& 0 = 0 ↔ True := by simp

theorem idx_and_allMask_eq_zero_iff (x : BitVec 8) : x &&& 0xFF = 0 ↔ x = 0 := by
  rw [show (0xFF : BitVec 8) = BitVec.allOnes 8 from rfl, BitVec.and_allOnes]

theorem data_and_allMask_eq_zero_iff (x : Word) : x &&& 0xFFFF = 0 ↔ x = 0 := by
  rw [show (0xFFFF : Word) = BitVec.allOnes 16 from rfl, BitVec.and_allOnes]

theorem idx_and_0x80_eq_zero_iff (x : BitVec 8) : x &&& 0x80 = 0 ↔ x.toNat < 128 := and_highMask_eq_zero_iff 7 x

theorem idx_and_0xE0_eq_zero_iff (x : BitVec 8) : x &&& 0xE0 = 0 ↔ x.toNat < 32 := and_highMask_eq_zero_iff 5 x

theorem idx_and_0xF8_eq_zero_iff (x : BitVec 8) : x &&& 0xF8 = 0 ↔ x.toNat < 8 := and_highMask_eq_zero_iff 3 x

theorem data_and_0xFF00_eq_zero_iff (x : Word) : x &&& 0xFF00 = 0 ↔ x.toNat ≤ 0xFF := by
  rw [← Nat.lt_succ_iff]
  exact and_highMask_eq_zero_iff 8 x

theorem data_and_0xFFFE_eq_zero_iff (x : Word) : x &&& 0xFFFE = 0 ↔ x.toNat ≤ 1 := by
  rw [← Nat.lt_succ_iff]
  exact and_highMask_eq_zero_iff 1 x

/-- The mask of a byte's width in a data field is the byte field of the word (rules R84, R85). -/
theorem dataField_and_byteMask_eq_zero_iff (w : PortWord) : dataField w &&& 0x00FF = 0 ↔ byteField w = 0 := by
  have hdata : (dataField w &&& 0x00FF).toNat = w.toNat % 2 ^ 16 % 2 ^ 8 := by
    rw [BitVec.toNat_and, dataField, BitVec.extractLsb'_toNat, Nat.shiftRight_zero]
    exact Nat.and_two_pow_sub_one_eq_mod _ 8
  have hbyte : (byteField w).toNat = w.toNat % 2 ^ 8 := by
    rw [byteField, BitVec.extractLsb'_toNat, Nat.shiftRight_zero]
  rw [← BitVec.toNat_inj, ← BitVec.toNat_inj, hdata, hbyte, Nat.mod_mod_of_dvd _ (by decide)]
  rfl

/-! ## Rows by fields -/

/-- A row of the opcode table by fields: its unit and operation, and the bits of `idx` and `data` that must be zero. -/
structure FieldRow where
  unit : BitVec 4
  op : BitVec 4
  idxMask : BitVec 8
  dataMask : Word

def fftRows : List FieldRow :=
  [⟨1, 0, 0xFF, 0xFFFF⟩, ⟨1, 1, 0x80, 0⟩, ⟨1, 2, 0xFF, 0xFFFF⟩, ⟨1, 3, 0x80, 0xFFFF⟩, ⟨1, 4, 0x80, 0xFFFF⟩,
   ⟨1, 5, 0x80, 0xFFFF⟩]

def strRows : List FieldRow :=
  [⟨2, 0, 0xFF, 0xFFFF⟩, ⟨2, 1, 0xE0, 0xFF00⟩, ⟨2, 2, 0xFF, 0xFFFF⟩, ⟨2, 3, 0xFF, 0xFFFE⟩, ⟨2, 4, 0xE0, 0xFFFF⟩]

def snkRows : List FieldRow :=
  [⟨3, 0, 0xFF, 0xFFFF⟩, ⟨3, 1, 0xE0, 0xFFFF⟩, ⟨3, 2, 0xFF, 0xFFFF⟩, ⟨3, 3, 0xFF, 0xFFFF⟩, ⟨3, 4, 0, 0⟩,
   ⟨3, 5, 0, 0x00FF⟩]

def evtRows : List FieldRow :=
  [⟨0xE, 1, 0xFF, 0xFFFF⟩, ⟨0xE, 2, 0xF8, 0xFFFF⟩, ⟨0xE, 3, 0xF8, 0xFFFF⟩, ⟨0xE, 4, 0xFF, 0xFFFF⟩]

/-- The row as (mask, match). -/
def FieldRow.toWords (r : FieldRow) : PortWord × PortWord :=
  (formatA 0xF 0xF r.idxMask r.dataMask, formatA r.unit r.op 0 0)

theorem wordRows_eq_fields :
    Machine.wordRows = (fftRows ++ strRows ++ snkRows ++ evtRows).map FieldRow.toWords := by
  decide

/-- The operation and operand fields of a word fit a row. -/
def FieldRow.Fits (r : FieldRow) (op : BitVec 4) (idx : BitVec 8) (data : Word) : Prop :=
  op = r.op ∧ idx &&& r.idxMask = 0 ∧ data &&& r.dataMask = 0

theorem and_toWords_eq_iff (w : PortWord) (r : FieldRow) :
    w &&& r.toWords.1 = r.toWords.2 ↔ unitField w = r.unit ∧ r.Fits (opField w) (idxField w) (dataField w) := by
  conv_lhs => rw [← formatA_fields w]
  have hones (x : BitVec 4) : x &&& 0xF = x := BitVec.and_allOnes
  simp only [FieldRow.toWords, FieldRow.Fits, formatA_and, formatA_inj, hones]

/-! ## What each unit accepts (rules R88 to R94, R99) -/

theorem need_eq_ok {ok : Bool} {why : Reject} {go : Except Reject Instr} {i : Instr} :
    need ok why go = .ok i ↔ ok = true ∧ go = .ok i := by
  cases ok <;> simp [need]

theorem forall_op {P : BitVec 4 → Prop} (h : ∀ n : Fin 16, P (BitVec.ofFin n)) (op : BitVec 4) : P op := h op.toFin

/-- A row's fit as a disjunct. -/
theorem exists_mem_cons_fits {r : FieldRow} {rs : List FieldRow} {op : BitVec 4} {idx : BitVec 8} {data : Word} :
    (∃ q ∈ r :: rs, q.Fits op idx data) ↔
      (op = r.op ∧ idx &&& r.idxMask = 0 ∧ data &&& r.dataMask = 0) ∨ ∃ q ∈ rs, q.Fits op idx data := by
  simp only [List.exists_mem_cons_iff, FieldRow.Fits]

theorem decodeFft_accepts (op : BitVec 4) (idx : BitVec 8) (data : Word) :
    (∃ i, decodeFft op.toNat idx data = .ok i) ↔ ∃ r ∈ fftRows, r.Fits op idx data := by
  simp only [fftRows, exists_mem_cons_fits, List.not_mem_nil, false_and, exists_false,
    and_noneMask_eq_zero_iff, idx_and_allMask_eq_zero_iff, data_and_allMask_eq_zero_iff, idx_and_0x80_eq_zero_iff]
  induction op using forall_op with | h n =>
  fin_cases n <;> simp [decodeFft, need_eq_ok]

theorem decodeStr_accepts (op : BitVec 4) (idx : BitVec 8) (data : Word) :
    (∃ i, decodeStr op.toNat idx data = .ok i) ↔ ∃ r ∈ strRows, r.Fits op idx data := by
  simp only [strRows, exists_mem_cons_fits, List.not_mem_nil, false_and, exists_false,
    idx_and_allMask_eq_zero_iff, data_and_allMask_eq_zero_iff, idx_and_0xE0_eq_zero_iff,
    data_and_0xFF00_eq_zero_iff, data_and_0xFFFE_eq_zero_iff]
  induction op using forall_op with | h n =>
  fin_cases n <;> simp [decodeStr, need_eq_ok]

theorem decodeSnk_accepts (op : BitVec 4) (w : PortWord) :
    (∃ i, decodeSnk op.toNat (idxField w) (dataField w) (addrField w) (byteField w) = .ok i) ↔
      ∃ r ∈ snkRows, r.Fits op (idxField w) (dataField w) := by
  simp only [snkRows, exists_mem_cons_fits, List.not_mem_nil, false_and, exists_false,
    and_noneMask_eq_zero_iff, idx_and_allMask_eq_zero_iff, data_and_allMask_eq_zero_iff,
    idx_and_0xE0_eq_zero_iff, dataField_and_byteMask_eq_zero_iff]
  induction op using forall_op with | h n =>
  fin_cases n <;> simp [decodeSnk, need_eq_ok]

theorem exists_decodeAgent_eq_ok (idx : BitVec 8) (data : Word) (make : Agent → Instr) :
    (∃ i, decodeAgent idx data make = .ok i) ↔ (1 ≤ idx.toNat ∧ idx.toNat ≤ 4) ∧ data = 0 := by
  rw [decodeAgent_eq]
  generalize idx.toNat = n
  rcases n with _ | _ | _ | _ | _ | n <;> simp <;> split_ifs <;> simp_all

/-- The two agent words are the ones the table's masks do not decide: the agent number must be in 1..4 besides. -/
theorem decodeEvt_accepts (op : BitVec 4) (idx : BitVec 8) (data : Word) :
    (∃ i, decodeEvt op.toNat idx data = .ok i) ↔
      (∃ r ∈ evtRows, r.Fits op idx data) ∧ (op = 2 ∨ op = 3 → 1 ≤ idx.toNat ∧ idx.toNat ≤ 4) := by
  simp only [evtRows, exists_mem_cons_fits, List.not_mem_nil, false_and, exists_false,
    idx_and_allMask_eq_zero_iff, data_and_allMask_eq_zero_iff, idx_and_0xF8_eq_zero_iff]
  have hmask : idx.toNat ≤ 4 → idx.toNat < 8 := by omega
  induction op using forall_op with | h n =>
  fin_cases n <;> simp [decodeEvt, need_eq_ok, exists_decodeAgent_eq_ok]
  all_goals tauto

/-! ## What the decoder accepts (rules R87, R99, R100) -/

theorem decode_word_of_reserved_unit {w : PortWord} (h1 : unitField w ≠ 0x1) (h2 : unitField w ≠ 0x2)
    (h3 : unitField w ≠ 0x3) (hE : unitField w ≠ 0xE) : decode (.word w) = .error .reservedUnit := by
  simp only [decode, decodeWord]
  split
  · exact absurd (BitVec.eq_of_toNat_eq (by assumption)) h1
  · exact absurd (BitVec.eq_of_toNat_eq (by assumption)) h2
  · exact absurd (BitVec.eq_of_toNat_eq (by assumption)) h3
  · exact absurd (BitVec.eq_of_toNat_eq (by assumption)) hE
  · rfl

/-- The operation and operand fields of a word fit a row of a unit's part of the table. -/
def FitsRowOf (rows : List FieldRow) (w : PortWord) : Prop :=
  ∃ r ∈ rows, r.Fits (opField w) (idxField w) (dataField w)

theorem exists_match_of_unit {rows : List FieldRow} {u : BitVec 4} (hu : ∀ r ∈ rows, r.unit = u) (w : PortWord) :
    (∃ r ∈ rows, w &&& r.toWords.1 = r.toWords.2) ↔ unitField w = u ∧ FitsRowOf rows w := by
  simp only [and_toWords_eq_iff, FitsRowOf]
  constructor
  · rintro ⟨r, hr, hunit, hfits⟩
    exact ⟨hunit.trans (hu r hr), r, hr, hfits⟩
  · rintro ⟨hunit, r, hr, hfits⟩
    exact ⟨r, hr, hunit.trans (hu r hr).symm, hfits⟩

theorem matches_wordRows_iff (w : PortWord) : (∃ row ∈ Machine.wordRows, w &&& row.1 = row.2) ↔
    (unitField w = 0x1 ∧ FitsRowOf fftRows w) ∨ (unitField w = 0x2 ∧ FitsRowOf strRows w) ∨
    (unitField w = 0x3 ∧ FitsRowOf snkRows w) ∨ (unitField w = 0xE ∧ FitsRowOf evtRows w) := by
  have hfft : ∀ r ∈ fftRows, r.unit = 0x1 := by simp [fftRows]
  have hstr : ∀ r ∈ strRows, r.unit = 0x2 := by simp [strRows]
  have hsnk : ∀ r ∈ snkRows, r.unit = 0x3 := by simp [snkRows]
  have hevt : ∀ r ∈ evtRows, r.unit = 0xE := by simp [evtRows]
  rw [wordRows_eq_fields, ← exists_match_of_unit hfft, ← exists_match_of_unit hstr, ← exists_match_of_unit hsnk,
    ← exists_match_of_unit hevt]
  simp only [List.mem_map, exists_exists_and_eq_and, List.mem_append, or_and_right, exists_or, or_assoc]

/-- The decoder accepts exactly the words of the table, with an agent number in 1..4 where there is one. -/
theorem decode_word_accepts_iff (w : PortWord) : (∃ i, decode (.word w) = .ok i) ↔
    (∃ row ∈ Machine.wordRows, w &&& row.1 = row.2) ∧ Machine.agentInRange w = true := by
  rw [matches_wordRows_iff]
  by_cases h1 : unitField w = 0x1
  · simp [decode_word_of_unit_fft h1, decodeFft_accepts, FitsRowOf, Machine.agentInRange, h1]
  by_cases h2 : unitField w = 0x2
  · simp [decode_word_of_unit_str h2, decodeStr_accepts, FitsRowOf, Machine.agentInRange, h2]
  by_cases h3 : unitField w = 0x3
  · simp [decode_word_of_unit_snk h3, decodeSnk_accepts, FitsRowOf, Machine.agentInRange, h3]
  by_cases hE : unitField w = 0xE
  · simp [decode_word_of_unit_evt hE, decodeEvt_accepts, FitsRowOf, Machine.agentInRange, hE, imp_iff_not_or]
  · simp only [decode_word_of_reserved_unit h1 h2 h3 hE, h1, h2, h3, hE, reduceCtorEq, exists_false, false_and,
      or_false]

/-! ## Where a decoded operation stands -/

/-- An operation that a decoding accepts has the property. -/
def AcceptsOnly (p : Instr → Prop) (r : Except Reject Instr) : Prop := ∀ i, r = .ok i → p i

@[simp] theorem acceptsOnly_ok {p : Instr → Prop} {i : Instr} : AcceptsOnly p (.ok i) ↔ p i := by
  simp [AcceptsOnly]

@[simp] theorem acceptsOnly_error {p : Instr → Prop} {why : Reject} : AcceptsOnly p (.error why) := by
  simp [AcceptsOnly]

@[simp] theorem acceptsOnly_need {p : Instr → Prop} {ok : Bool} {why : Reject} {go : Except Reject Instr} :
    AcceptsOnly p (need ok why go) ↔ (ok = true → AcceptsOnly p go) := by
  simp only [AcceptsOnly, need_eq_ok, and_imp]
  exact forall_comm

theorem acceptsOnly_decodeAgent {p : Instr → Prop} {make : Agent → Instr} (h : ∀ a, p (make a)) (idx : BitVec 8)
    (data : Word) : AcceptsOnly p (decodeAgent idx data make) := by
  unfold decodeAgent
  split <;> simp [h]

/-- An operation stands in the table at the unit and operation number. -/
def StandsAt (u o : BitVec 4) (i : Instr) : Prop := Laws.tablePlace i = .op u o

theorem decodeFft_standsAt (op : BitVec 4) (idx : BitVec 8) (data : Word) :
    AcceptsOnly (StandsAt 0x1 op) (decodeFft op.toNat idx data) := by
  induction op using forall_op with | h n =>
  fin_cases n <;> simp [decodeFft, StandsAt, Laws.tablePlace]

theorem decodeStr_standsAt (op : BitVec 4) (idx : BitVec 8) (data : Word) :
    AcceptsOnly (StandsAt 0x2 op) (decodeStr op.toNat idx data) := by
  induction op using forall_op with | h n =>
  fin_cases n <;> simp [decodeStr, StandsAt, Laws.tablePlace]

theorem decodeSnk_standsAt (op : BitVec 4) (idx : BitVec 8) (data : Word) (addr : BitVec 16) (byte : Byte) :
    AcceptsOnly (StandsAt 0x3 op) (decodeSnk op.toNat idx data addr byte) := by
  induction op using forall_op with | h n =>
  fin_cases n <;> simp [decodeSnk, StandsAt, Laws.tablePlace]

theorem decodeEvt_standsAt (op : BitVec 4) (idx : BitVec 8) (data : Word) :
    AcceptsOnly (StandsAt 0xE op) (decodeEvt op.toNat idx data) := by
  induction op using forall_op with | h n =>
  fin_cases n <;> simp [decodeEvt, StandsAt, Laws.tablePlace]
  all_goals exact acceptsOnly_decodeAgent (by intro a; rfl) _ _

/-- A decoded word's operation stands at the word's unit and operation number. -/
theorem standsAt_of_decode_word {w : PortWord} {i : Instr} (h : decode (.word w) = .ok i) :
    StandsAt (unitField w) (opField w) i := by
  by_cases h1 : unitField w = 0x1
  · rw [decode_word_of_unit_fft h1] at h
    exact h1 ▸ decodeFft_standsAt _ _ _ i h
  by_cases h2 : unitField w = 0x2
  · rw [decode_word_of_unit_str h2] at h
    exact h2 ▸ decodeStr_standsAt _ _ _ i h
  by_cases h3 : unitField w = 0x3
  · rw [decode_word_of_unit_snk h3] at h
    exact h3 ▸ decodeSnk_standsAt _ _ _ _ _ i h
  by_cases hE : unitField w = 0xE
  · rw [decode_word_of_unit_evt hE] at h
    exact hE ▸ decodeEvt_standsAt _ _ _ i h
  · rw [decode_word_of_reserved_unit h1 h2 h3 hE] at h
    cases h

/-! ## Framebuffer words (rules R199, R200) -/

theorem decode_snkWrfb_word {w : PortWord} (hu : unitField w = 0x3) (ho : opField w = 4) :
    decode (.word w) = .ok (.snkWrfb (addrField w) (byteField w)) := by
  rw [decode_word_of_unit_snk hu, ho]
  rfl

theorem decode_snkRdfb_word {w : PortWord} (hu : unitField w = 0x3) (ho : opField w = 5) :
    decode (.word w) = if byteField w = 0 then .ok (.snkRdfb (addrField w)) else .error .fieldNotZero := by
  rw [decode_word_of_unit_snk hu, ho]
  simp [decodeSnk, need]

theorem decode_eq_snkWrfb_iff (w : PortWord) (addr : BitVec 16) (byte : Byte) :
    decode (.word w) = .ok (.snkWrfb addr byte) ↔
      w &&& 0xFF000000 = 0x34000000 ∧ addr = addrField w ∧ byte = byteField w := by
  have hmatch : w &&& 0xFF000000 = 0x34000000 ↔ unitField w = 0x3 ∧ opField w = 4 := by
    have hrow := and_toWords_eq_iff w ⟨0x3, 4, 0, 0⟩
    simp only [FieldRow.Fits, and_noneMask_eq_zero_iff, and_true] at hrow
    exact hrow
  rw [hmatch]
  constructor
  · intro h
    have hplace := standsAt_of_decode_word h
    simp only [StandsAt, Laws.tablePlace, Laws.Place.op.injEq] at hplace
    obtain ⟨hu, ho⟩ := hplace
    simpa [decode_snkWrfb_word hu.symm ho.symm, hu.symm, ho.symm, eq_comm] using h
  · rintro ⟨⟨hu, ho⟩, rfl, rfl⟩
    exact decode_snkWrfb_word hu ho

theorem decode_eq_snkRdfb_iff (w : PortWord) (addr : BitVec 16) :
    decode (.word w) = .ok (.snkRdfb addr) ↔ w &&& 0xFF0000FF = 0x35000000 ∧ addr = addrField w := by
  have hmatch : w &&& 0xFF0000FF = 0x35000000 ↔ unitField w = 0x3 ∧ opField w = 5 ∧ byteField w = 0 := by
    have hrow := and_toWords_eq_iff w ⟨0x3, 5, 0, 0x00FF⟩
    simp only [FieldRow.Fits, and_noneMask_eq_zero_iff, dataField_and_byteMask_eq_zero_iff, true_and] at hrow
    exact hrow
  rw [hmatch]
  constructor
  · intro h
    have hplace := standsAt_of_decode_word h
    simp only [StandsAt, Laws.tablePlace, Laws.Place.op.injEq] at hplace
    obtain ⟨hu, ho⟩ := hplace
    rw [decode_snkRdfb_word hu.symm ho.symm] at h
    split_ifs at h with hb
    simpa [hu.symm, ho.symm, hb, eq_comm] using h
  · rintro ⟨⟨hu, ho, hb⟩, rfl⟩
    rw [decode_snkRdfb_word hu ho, if_pos hb]

/-- The one check that needs the parameters fails for the framebuffer words whose address is past the end. -/
theorem decoded_not_wf_iff (w : PortWord) (c : Config) :
    (∃ i, decode (.word w) = .ok i ∧ i.wf c = false) ↔
      (w &&& 0xFF000000 = 0x34000000 ∨ w &&& 0xFF0000FF = 0x35000000) ∧ c.fbSize ≤ (addrField w).toNat := by
  constructor
  · rintro ⟨i, hi, hwf⟩
    cases i <;> simp only [Instr.wf, Bool.true_eq_false, decide_eq_false_iff_not, Nat.not_lt] at hwf
    case snkWrfb addr byte =>
      obtain ⟨hw, rfl, -⟩ := (decode_eq_snkWrfb_iff ..).1 hi
      exact ⟨.inl hw, hwf⟩
    case snkRdfb addr =>
      obtain ⟨hw, rfl⟩ := (decode_eq_snkRdfb_iff ..).1 hi
      exact ⟨.inr hw, hwf⟩
  · rintro ⟨hw | hw, hsize⟩
    · exact ⟨_, (decode_eq_snkWrfb_iff ..).2 ⟨hw, rfl, rfl⟩, by simpa [Instr.wf] using hsize⟩
    · exact ⟨_, (decode_eq_snkRdfb_iff ..).2 ⟨hw, rfl⟩, by simpa [Instr.wf] using hsize⟩

end Sys2Proof
end

section
/-! PROOFS. Every port word is answered (statement PortWordsAreAnswered): what an answer is, how the shared operations
give one, the answer of each command, and the words that NAK_ARG answers. -/

namespace Sys2Proof.Machine

/-! ## Response words (rule R98) -/

theorem responseWord_toNat (c : RespCode) (d : Word) : (responseWord c d).toNat =
    0x10000 * (match c with | .ack => 0 | .nakBusy => 1 | .nakArg => 2 | .nakState => 3) + d.toNat := by
  rw [responseWord, toNat_append_eq_add, toNat_append_eq_add]
  cases c <;> simp [respCodeBits, Nat.mul_comm]

/-! ## A settle ends in order (rule R94) -/

/-- The end of agents' runs from `s`: a state in order with the same schedule. -/
structure EndsInOrder (s t : State) : Prop where
  ok : MachineOk t
  turns : t.turns = s.turns

theorem EndsInOrder.trans {s t u : State} (hst : EndsInOrder s t) (htu : EndsInOrder t u) : EndsInOrder s u :=
  ⟨htu.ok, htu.turns.trans hst.turns⟩

theorem runAgent_endsInOrder {s : State} (h : MachineOk s) (a : Agent) :
    ∃ r, runAgent a runFuel s = .next r ∧ EndsInOrder s r.1 := by
  obtain ⟨t, n, hrun, hr⟩ := runAgent_runFuel h a
  exact ⟨(t, n), hrun, hr.ok, hr.turns⟩

theorem runNext_endsInOrder {r : State × Nat} (h : MachineOk r.1) (a : Agent) :
    ∃ q, runNext a r = .next q ∧ EndsInOrder r.1 q.1 := by
  obtain ⟨q, hrun, hq⟩ := runAgent_endsInOrder h a
  exact ⟨addSteps r.2 q, by rw [runNext, hrun, andThen_next], hq⟩

theorem settleRound_endsInOrder {s : State} (h : MachineOk s) :
    ∃ r, settleRound s = .next r ∧ EndsInOrder s r.1 := by
  obtain ⟨r1, h1, o1⟩ := runAgent_endsInOrder h .str
  obtain ⟨r2, h2, o2⟩ := runNext_endsInOrder o1.ok .lnk
  obtain ⟨r3, h3, o3⟩ := runNext_endsInOrder o2.ok .snk
  obtain ⟨r4, h4, o4⟩ := runNext_endsInOrder o3.ok .fft
  exact ⟨r4, by simp only [settleRound, h1, h2, h3, h4, andThen_next], ((o1.trans o2).trans o3).trans o4⟩

theorem settleRounds_endsInOrder {s : State} (h : MachineOk s) (n : Nat) :
    ∃ r, settleRounds n s = .next r ∧ EndsInOrder s r.1 := by
  induction n generalizing s with
  | zero => exact ⟨(s, 0), rfl, h, rfl⟩
  | succ n ih =>
    obtain ⟨r, hround, hr⟩ := settleRound_endsInOrder h
    rw [settleRounds, hround, andThen_next]
    split
    · exact ⟨r, rfl, hr⟩
    · obtain ⟨q, hrest, hq⟩ := ih hr.ok
      exact ⟨addSteps r.2 q, by rw [hrest, andThen_next], hr.trans hq⟩

/-! ## Answers (rules R98, R241) -/

/-- A word's meaning answers with the code: the schedule stands, and with a NAK the data is 0 and only the response word
changes. -/
def AnswersWith (c : RespCode) (s : State) (o : Result) : Prop :=
  ∃ t d, o = .next t ∧ t.turns = s.turns ∧ t.resp = some (responseWord c d) ∧ (c ≠ .ack → d = 0 ∧ t = s.respond c 0)

theorem answersWith_ack {s t : State} (d : Word) (ht : t.turns = s.turns := by rfl) :
    AnswersWith .ack s (ackWith d t) :=
  ⟨t.respond .ack d, d, rfl, ht, rfl, fun h => absurd rfl h⟩

theorem answersWith_raiseNak (c : RespCode) (s : State) : AnswersWith c s (raiseNak c s) :=
  ⟨s.respond c 0, 0, rfl, rfl, rfl, fun _ => ⟨rfl, rfl⟩⟩

theorem answersWith_unlessBusy {c : RespCode} {s : State} {go : Result} (b : Bool) (h : AnswersWith c s go) :
    AnswersWith (if b then .nakBusy else c) s (unlessBusy b s go) := by
  cases b with
  | false => exact h
  | true => exact answersWith_raiseNak .nakBusy s

theorem answersWith_withFbAddr {c : RespCode} {s : State} {go : Result} (addr : BitVec 16) (h : AnswersWith c s go) :
    AnswersWith (if addr.toNat < s.cfg.fbSize then c else .nakArg) s (withFbAddr addr s go) := by
  unfold withFbAddr
  split
  · exact h
  · exact answersWith_raiseNak .nakArg s

/-! ## The code of an operation's answer (rules R99, R241, R242) -/

/-- `expectedCode` of a word that decodes to the operation. -/
def answerCode (i : Instr) (s : State) : RespCode :=
  if i.wf s.cfg = false then .nakArg
  else if refusedBusy i s = true then .nakBusy
  else if i = .snkRstcnt ∧ s.rxcnt ≠ 32 then .nakState
  else .ack

theorem expectedCode_of_decode {w : PortWord} {i : Instr} (h : decode (.word w) = .ok i) (s : State) :
    expectedCode w s = answerCode i s := by
  rw [expectedCode, h, answerCode]

theorem expectedCode_of_reject {w : PortWord} {why : Reject} (h : decode (.word w) = .error why) (s : State) :
    expectedCode w s = .nakArg := by
  rw [expectedCode, h]

/-- An operation that is in range and is not SNK.RSTCNT is refused only by its busy unit. -/
theorem answerCode_of_wf {i : Instr} {s : State} (hwf : i.wf s.cfg = true) (hi : i ≠ .snkRstcnt) :
    answerCode i s = if refusedBusy i s then .nakBusy else .ack := by
  simp [answerCode, hwf, hi]

theorem answersWith_always {i : Instr} {s : State} (hwf : i.wf s.cfg = true) (hi : i ≠ .snkRstcnt)
    (hbusy : refusedBusy i s = false) (h : AnswersWith .ack s (exec i s)) :
    AnswersWith (answerCode i s) s (exec i s) := by
  rw [answerCode_of_wf hwf hi, hbusy]
  exact h

/-- The addressed commands check the address before the phase (rule R242). -/
theorem answersWith_fbCommand {i : Instr} {s : State} {addr : BitVec 16} {go : Result}
    (hwf : i.wf s.cfg = decide (addr.toNat < s.cfg.fbSize)) (hi : i ≠ .snkRstcnt) (hbusy : refusedBusy i s = snkBusy s)
    (hexec : exec i s = withFbAddr addr s (unlessBusy (snkBusy s) s go)) (h : AnswersWith .ack s go) :
    AnswersWith (answerCode i s) s (exec i s) := by
  have hcode : answerCode i s =
      if addr.toNat < s.cfg.fbSize then (if snkBusy s then .nakBusy else .ack) else .nakArg := by
    by_cases hlt : addr.toNat < s.cfg.fbSize <;> simp [answerCode, hwf, hi, hbusy, hlt]
  rw [hcode, hexec]
  exact answersWith_withFbAddr addr (answersWith_unlessBusy _ h)

theorem answersWith_busyCommand {i : Instr} {s : State} {go : Result} (hwf : i.wf s.cfg = true) (hi : i ≠ .snkRstcnt)
    (hexec : exec i s = unlessBusy (refusedBusy i s) s go) (h : AnswersWith .ack s go) :
    AnswersWith (answerCode i s) s (exec i s) := by
  rw [answerCode_of_wf hwf hi, hexec]
  exact answersWith_unlessBusy _ h

theorem answersWith_snkRstcnt (s : State) : AnswersWith (answerCode .snkRstcnt s) s (exec .snkRstcnt s) := by
  have hcode : answerCode .snkRstcnt s =
      if snkBusy s then .nakBusy else if full s then .ack else .nakState := by
    simp [answerCode, Instr.wf, refusedBusy, snkBusy, full]
  rw [hcode]
  refine answersWith_unlessBusy (snkBusy s) ?_
  split
  · exact answersWith_ack 0
  · exact answersWith_raiseNak .nakState s

/-! ## Every command and event word's operation -/

theorem answersWith_evtStep {s : State} (h : MachineOk s) (a : Agent) : AnswersWith .ack s (exec (.evtStep a) s) := by
  by_cases he : agentEnabled a s = true
  · obtain ⟨t, ht, hs⟩ := exists_properStep h he
    rw [exec_evtStep_of_step he ht]
    exact answersWith_ack 1 hs.turns
  · rw [exec_evtStep_of_disabled (by simpa using he)]
    exact answersWith_ack 0

theorem answersWith_evtRun {s : State} (h : MachineOk s) (a : Agent) : AnswersWith .ack s (exec (.evtRun a) s) := by
  obtain ⟨t, n, hrun, hr⟩ := runAgent_runFuel h a
  rw [exec_evtRun_of_run hrun]
  exact answersWith_ack _ hr.turns

theorem answersWith_evtSettle {s : State} (h : MachineOk s) : AnswersWith .ack s (exec .evtSettle s) := by
  obtain ⟨r, hrun, hr⟩ := settleRounds_endsInOrder h settleFuel
  have hexec : exec .evtSettle s = ackWith (countData r.2) r.1 := by
    simp only [exec, execEvtSettle, hrun, andThen_next]
  rw [hexec]
  exact answersWith_ack _ hr.turns

/-- In a state in order every operation that a word encodes answers with its code (rules R92 to R94, R120 to R125,
R141 to R145, R181, R195 to R200). -/
theorem exec_answersWith {s : State} (h : MachineOk s) {i : Instr} (hi : isMicro i = false) :
    AnswersWith (answerCode i s) s (exec i s) := by
  cases i with
  | fftStat | fftRds | strStat | strSetfr | strRdb | evtLine =>
    exact answersWith_always rfl nofun rfl (answersWith_ack _)
  | fftLds | fftStart | fftRdr | fftRdi | strWrb | strSend | snkStat | snkRdb | snkRdline =>
    exact answersWith_busyCommand rfl nofun rfl (answersWith_ack _)
  | snkRstcnt => exact answersWith_snkRstcnt s
  | snkWrfb | snkRdfb => exact answersWith_fbCommand rfl nofun rfl rfl (answersWith_ack _)
  | evtStep a => exact answersWith_always rfl nofun rfl (answersWith_evtStep h a)
  | evtRun a => exact answersWith_always rfl nofun rfl (answersWith_evtRun h a)
  | evtSettle => exact answersWith_always rfl nofun rfl (answersWith_evtSettle h)
  | fftSwap | fftBfly | strWaitrr | strPush | strFin | rasSyncon | rasCount | rasSyncoff | rasEmit | rcvPoll | rcvRd0
  | rcvRdyoff | rcvRdn | lnkLoad | lnkXfer => cases hi

/-- No word encodes a micro-operation (rule R101): those stand at a register's value. -/
theorem isMicro_of_decode_word {w : PortWord} {i : Instr} (h : decode (.word w) = .ok i) : isMicro i = false := by
  have hplace := standsAt_of_decode_word h
  cases i <;> simp only [StandsAt, Laws.tablePlace, reduceCtorEq] at hplace <;> rfl

/-! ## A step that takes a word -/

theorem MachineOk.popTurn {s : State} (h : MachineOk s) : MachineOk s.popTurn :=
  ⟨h.config, h.memories, h.fft, h.streamer, h.receiver, h.raster, h.response⟩

theorem answerCode_popTurn (i : Instr) (s : State) : answerCode i s.popTurn = answerCode i s := rfl

/-- The answer to a word in a state in order: its operation's, or NAK_ARG where the decoder rejects it. -/
theorem step_word_answersWith {s : State} (h : MachineOk s) {w : PortWord} {ts : List Turn}
    (hw : s.turns = .word w :: ts) : AnswersWith (expectedCode w s) s.popTurn (step s) := by
  simp only [step, hw, turnCode]
  split
  · rename_i i hi
    rw [expectedCode_of_decode hi, ← answerCode_popTurn]
    exact exec_answersWith h.popTurn (isMicro_of_decode_word hi)
  · rename_i why hwhy
    rw [expectedCode_of_reject hwhy]
    exact answersWith_raiseNak .nakArg s.popTurn

/-! ## The words that NAK_ARG answers (rules R99, R100) -/

theorem expectedCode_eq_nakArg_iff (s : State) (w : PortWord) : expectedCode w s = .nakArg ↔
    (¬∃ i, decode (.word w) = .ok i) ∨ ∃ i, decode (.word w) = .ok i ∧ i.wf s.cfg = false := by
  cases hd : decode (.word w) with
  | error why => simp [expectedCode_of_reject hd]
  | ok i =>
    rw [expectedCode_of_decode hd, answerCode]
    split_ifs <;> simp_all

/-- Settles O8: each command is the shared operations' answers put together, the event words end by their runs, and the
table decides what the decoder accepts. -/
theorem portWordsAreAnswered : Obligations.PortWordsAreAnswered := by
  refine ⟨fun c d => ?_, fun s w ts h hw => ?_, fun s w => ?_⟩
  · exact responseWord_toNat c d
  · obtain ⟨t, d, hstep, hturns, hresp, hnak⟩ := step_word_answersWith h hw
    refine ⟨t, d, hstep, by rw [hturns, State.popTurn_turns, hw, List.tail_cons], hresp, fun hc => ?_⟩
    obtain ⟨hd, ht⟩ := hnak hc
    refine ⟨hd, ?_⟩
    rw [ht, State.respond, State.popTurn, hw, List.tail_cons]
  · rw [expectedCode_eq_nakArg_iff, decode_word_accepts_iff, decoded_not_wf_iff]

end Sys2Proof.Machine
end

section
/-! PROOFS. The FFT unit's commands (statements FftLoadSample, FftStartBeginsReorder and FftReads): which words name
them, and what they do in an idle unit and answer in a busy one. -/

namespace Sys2Proof

/-! ## Words of the FFT unit (rules R88, R99) -/

theorem decode_fftLds_word {w : PortWord} (hu : unitField w = 0x1) (ho : opField w = 1) : decode (.word w) =
    if (idxField w).toNat < 128 then .ok (.fftLds ((idxField w).setWidth 7) (dataField w))
    else .error .indexRange := by
  rw [decode_word_of_unit_fft hu, ho]
  simp [decodeFft, need]

theorem decode_fftStart_word {w : PortWord} (hu : unitField w = 0x1) (ho : opField w = 2) :
    decode (.word w) = if w = 0x12000000 then .ok .fftStart else .error .fieldNotZero := by
  rw [decode_word_of_unit_fft hu, ho]
  exact need_no_operands hu ho .fftStart

/-- The checks of a command that reads a cell: the index first, then the unused data field. -/
theorem need_cell_index (idx : BitVec 8) (data : Word) (i : Instr) :
    need (decide (idx.toNat < 128)) .indexRange (need (data == 0) .fieldNotZero (.ok i)) =
      if idx.toNat < 128 then if data = 0 then .ok i else .error .fieldNotZero else .error .indexRange := by
  simp [need]

theorem decode_fftRdr_word {w : PortWord} (hu : unitField w = 0x1) (ho : opField w = 3) : decode (.word w) =
    if (idxField w).toNat < 128 then
      if dataField w = 0 then .ok (.fftRdr ((idxField w).setWidth 7)) else .error .fieldNotZero
    else .error .indexRange := by
  rw [decode_word_of_unit_fft hu, ho]
  exact need_cell_index ..

theorem decode_fftRdi_word {w : PortWord} (hu : unitField w = 0x1) (ho : opField w = 4) : decode (.word w) =
    if (idxField w).toNat < 128 then
      if dataField w = 0 then .ok (.fftRdi ((idxField w).setWidth 7)) else .error .fieldNotZero
    else .error .indexRange := by
  rw [decode_word_of_unit_fft hu, ho]
  exact need_cell_index ..

theorem decode_fftRds_word {w : PortWord} (hu : unitField w = 0x1) (ho : opField w = 5) : decode (.word w) =
    if (idxField w).toNat < 128 then
      if dataField w = 0 then .ok (.fftRds ((idxField w).setWidth 7)) else .error .fieldNotZero
    else .error .indexRange := by
  rw [decode_word_of_unit_fft hu, ho]
  exact need_cell_index ..

end Sys2Proof

namespace Sys2Proof.Machine

/-! ## The refusal while busy (rule R119) -/

theorem unlessFftBusy_of_idle {s : State} (h : s.fftPh = .idle) (go : Result) : unlessBusy (fftBusy s) s go = go := by
  have hb : fftBusy s = false := by simp [fftBusy_eq_decide, h]
  rw [hb, unlessBusy_of_idle]

theorem unlessFftBusy_of_busy {s : State} (h : s.fftPh ≠ .idle) (go : Result) :
    unlessBusy (fftBusy s) s go = .next { s with resp := some (responseWord .nakBusy 0) } := by
  have hb : fftBusy s = true := by simp [fftBusy_eq_decide, h]
  rw [hb, unlessBusy_of_busy, State.respond]

/-! ## The commands in an idle unit (rules R121 to R125) -/

theorem exec_fftLds_of_idle {s : State} (h : s.fftPh = .idle) (idx : BitVec 7) (data : Word) :
    exec (.fftLds idx data) s = .next
      { s with
        fr := s.fr.write idx.toNat data, fi := s.fi.write idx.toNat 0, fftDone := false
        resp := some (responseWord .ack 0) } :=
  unlessFftBusy_of_idle h _

theorem exec_fftStart_of_idle {s : State} (h : s.fftPh = .idle) : exec .fftStart s = .next
    { s with
      fftPh := .reorder, regM := 1, regS := 0, regI := 0, fftDone := false
      resp := some (responseWord .ack 0) } :=
  unlessFftBusy_of_idle h _

theorem exec_fftRdr_of_idle {s : State} (h : s.fftPh = .idle) (idx : BitVec 7) :
    exec (.fftRdr idx) s = .next { s with resp := some (responseWord .ack (s.fr.read idx.toNat)) } :=
  unlessFftBusy_of_idle h _

theorem exec_fftRdi_of_idle {s : State} (h : s.fftPh = .idle) (idx : BitVec 7) :
    exec (.fftRdi idx) s = .next { s with resp := some (responseWord .ack (s.fi.read idx.toNat)) } :=
  unlessFftBusy_of_idle h _

/-- FFT.RDS has no busy check. -/
theorem exec_fftRds (s : State) (idx : BitVec 7) :
    exec (.fftRds idx) s = .next { s with resp := some (responseWord .ack (s.cfg.sin.getD idx.toNat 0)) } := rfl

/-- Settles O10: the two writes of the load, read back in canonical memories. -/
theorem fftLoadSample : Obligations.FftLoadSample := by
  refine ⟨fun _ => decode_fftLds_word, fun s idx data hmem hidle => ?_, fun s idx data hbusy => ?_⟩
  · obtain ⟨⟨hfr, -⟩, ⟨hfi, -⟩, -⟩ := hmem
    exact ⟨_, exec_fftLds_of_idle hidle idx data, fun k => Memory.read_write hfr _ k _,
      fun k => Memory.read_write hfi _ k _, rfl⟩
  · exact unlessFftBusy_of_busy hbusy _

/-- Settles O11: the command's word, its effect in an idle unit and its refusal in a busy one. -/
theorem fftStartBeginsReorder : Obligations.FftStartBeginsReorder :=
  ⟨fun _ => decode_fftStart_word, fun _ => exec_fftStart_of_idle, fun _ hbusy => unlessFftBusy_of_busy hbusy _⟩

/-- Settles O12: each command's word, and its answer in an idle and in a busy unit. -/
theorem fftReads : Obligations.FftReads :=
  ⟨fun _ => decode_fftRdr_word, fun _ => decode_fftRdi_word, fun _ => decode_fftRds_word,
    fun _ idx hidle => ⟨exec_fftRdr_of_idle hidle idx, exec_fftRdi_of_idle hidle idx⟩,
    fun _ _ hbusy => ⟨unlessFftBusy_of_busy hbusy _, unlessFftBusy_of_busy hbusy _⟩, exec_fftRds⟩

end Sys2Proof.Machine
end

section
/-! PROOFS. The wrapping arithmetic and the bit reversal (statements WrappingArithmetic and BitReversal). -/

namespace Sys2Proof.Machine

/-! ## Wrapping arithmetic (rules R15, R112 to R114) -/

theorem wrap16_sint16 (a : Word) : wrap16 (sint16 a) = a := BitVec.ofInt_toInt

theorem add16_eq_add (a b : Word) : add16 a b = a + b := by
  rw [add16, wrap16, sint16, sint16, BitVec.ofInt_add, BitVec.ofInt_toInt, BitVec.ofInt_toInt]

theorem neg16_eq_neg (a : Word) : neg16 a = -a := by
  rw [neg16, wrap16, sint16, BitVec.ofInt_neg, BitVec.ofInt_toInt]

theorem sub16_eq_sub (a b : Word) : sub16 a b = a - b := by
  rw [sub16, wrap16, sint16, sint16, Int.sub_eq_add_neg, BitVec.ofInt_add, BitVec.ofInt_neg, BitVec.ofInt_toInt,
    BitVec.ofInt_toInt, BitVec.sub_eq_add_neg]

theorem sint16_sshiftRight_one (a : Word) : sint16 (a.sshiftRight 1) = sint16 a / 2 := by
  rw [sint16, BitVec.toInt_sshiftRight, Int.shiftRight_eq_div_pow]
  rfl

theorem asr1_eq_sshiftRight (a : Word) : asr1 a = a.sshiftRight 1 := by
  rw [asr1, ← sint16_sshiftRight_one, wrap16_sint16]

/-- Halving cannot overflow: the halved pattern reads as the exact floor. -/
theorem sint16_asr1 (a : Word) : sint16 (asr1 a) = sint16 a / 2 := by
  rw [asr1_eq_sshiftRight, sint16_sshiftRight_one]

theorem sint16_asr1_eq_floor (a : Word) : sint16 (asr1 a) = ⌊(sint16 a : ℚ) / 2⌋ := by
  rw [sint16_asr1]
  exact (Rat.floor_intCast_div_natCast (sint16 a) 2).symm

/-- Over the list, not over all words: the bound on the table is checked entry by entry. -/
theorem sint16_sinTable_bounds : ∀ v ∈ sinTable, -128 ≤ sint16 v ∧ sint16 v ≤ 128 := by
  have hall : sinTable.all (fun v => decide (-128 ≤ sint16 v ∧ sint16 v ≤ 128)) = true := by decide
  exact fun v hv => of_decide_eq_true (List.all_eq_true.1 hall v hv)

/-- Settles O34: the general laws, and the corner values of rules R112 to R114 by evaluation. -/
theorem wrappingArithmetic : Obligations.WrappingArithmetic := by
  refine ⟨fun a b => ⟨add16_eq_add a b, rfl⟩, fun a b => ⟨sub16_eq_sub a b, rfl⟩, fun a => ⟨neg16_eq_neg a, rfl⟩,
    fun a => ⟨asr1_eq_sshiftRight a, sint16_asr1_eq_floor a⟩, ?_, ?_, ?_, ?_, ?_, sint16_sinTable_bounds, ?_⟩
  all_goals decide

/-! ## Bit reversal (rule R117) -/

theorem getLsbD_rev7 (i : BitVec 7) {b : Nat} (hb : b < 7) : (rev7 i).getLsbD b = i.getLsbD (6 - b) := by
  have happend : rev7 i = (i.extractLsb' 0 1 ++ i.extractLsb' 1 1 ++ i.extractLsb' 2 1 ++ i.extractLsb' 3 1 ++
      i.extractLsb' 4 1 ++ i.extractLsb' 5 1 ++ i.extractLsb' 6 1 : BitVec (1 + 1 + 1 + 1 + 1 + 1 + 1)) := rfl
  rw [happend]
  simp only [BitVec.getLsbD_append, BitVec.getLsbD_extractLsb']
  interval_cases b <;> simp

theorem rev7_rev7 (i : BitVec 7) : rev7 (rev7 i) = i := by
  apply BitVec.eq_of_getLsbD_eq
  intro b hb
  rw [getLsbD_rev7 _ hb, getLsbD_rev7 _ (by omega), Nat.sub_sub_self (by omega)]

theorem toNat_extractLsb'_one {n : Nat} (x : BitVec n) (b : Nat) : (x.extractLsb' b 1).toNat = (x.getLsbD b).toNat := by
  rw [BitVec.extractLsb'_toNat, Nat.shiftRight_eq_div_pow, ← Nat.toNat_testBit]
  simp [BitVec.getLsbD]

/-- The concatenation of rule R117 as a number: bit `b` has weight `2 ^ (6 - b)`. -/
theorem toNat_rev7 (i : BitVec 7) :
    (rev7 i).toNat = ((List.range 7).map fun b => (i.getLsbD b).toNat * 2 ^ (6 - b)).sum := by
  simp only [rev7, toNat_append_eq_add, toNat_extractLsb'_one, List.range_succ, List.range_zero, List.map_append,
    List.sum_append, List.map_cons, List.map_nil, List.sum_cons, List.sum_nil, List.nil_append]
  omega

/-- Settles O35: the reversal bit by bit; the counts and the rule's examples by evaluation. -/
theorem bitReversal : Obligations.BitReversal := by
  refine ⟨toNat_rev7, rev7_rev7, ?_⟩
  decide

end Sys2Proof.Machine
end

section
/-! PROOFS. One butterfly (statement ButterflyStep): what it leaves in each cell of the two arrays, and how it moves the
loop registers. -/

namespace Sys2Proof.Machine

/-! ## The pair of arrays -/

/-- Both arrays are in canonical form. -/
structure TableOk (t : Table) : Prop where
  re : Memory.wf t.1 = true
  im : Memory.wf t.2 = true

theorem MemoriesOk.tableOk {s : State} (h : MemoriesOk s) : TableOk (s.fr, s.fi) := by
  obtain ⟨⟨hfr, -⟩, ⟨hfi, -⟩, -⟩ := h
  exact ⟨hfr, hfi⟩

theorem TableOk.tableSet {t : Table} (h : TableOk t) (i : Nat) (x : Cplx) : TableOk (tableSet t i x) :=
  ⟨Memory.wf_write h.re i x.re, Memory.wf_write h.im i x.im⟩

theorem tableAt_tableSet {t : Table} (h : TableOk t) (i k : Nat) (x : Cplx) :
    tableAt (tableSet t i x) k = if k = i then x else tableAt t k := by
  simp only [tableAt, tableSet, Memory.read_write h.re, Memory.read_write h.im]
  split <;> rfl

/-! ## The butterfly on the arrays (rules R118, R127) -/

theorem halfSpan_eq_two_pow (stage : Nat) : halfSpan stage = 2 ^ stage := Nat.one_shiftLeft stage

theorem halfSpan_pos (stage : Nat) : 0 < halfSpan stage := by
  rw [halfSpan_eq_two_pow]
  exact Nat.two_pow_pos stage

/-- The twiddle factor of twiddle index `m` in a stage. -/
def twiddle (c : Config) (stage m : Nat) : Cplx :=
  ⟨twiddleRe c (angleIndex stage m), twiddleIm c (angleIndex stage m)⟩

theorem butterfly_eq (c : Config) (stage m i : Nat) (t : Table) : butterfly c stage m i t =
    tableSet
      (tableSet t (i + halfSpan stage)
        (bflyHigh c (twiddle c stage m) (tableAt t i) (tableAt t (i + halfSpan stage))))
      i (bflyLow c (twiddle c stage m) (tableAt t i) (tableAt t (i + halfSpan stage))) := rfl

theorem TableOk.butterfly {t : Table} (h : TableOk t) (c : Config) (stage m i : Nat) :
    TableOk (butterfly c stage m i t) :=
  (h.tableSet _ _).tableSet _ _

/-- The two cells of a butterfly are distinct, so each gets its own value; every other cell stays. -/
theorem tableAt_butterfly {t : Table} (h : TableOk t) (c : Config) (stage m i k : Nat) :
    tableAt (butterfly c stage m i t) k =
      if k = i + halfSpan stage then
        bflyHigh c (twiddle c stage m) (tableAt t i) (tableAt t (i + halfSpan stage))
      else if k = i then bflyLow c (twiddle c stage m) (tableAt t i) (tableAt t (i + halfSpan stage))
      else tableAt t k := by
  have hspan : halfSpan stage ≠ 0 := (halfSpan_pos stage).ne'
  rw [butterfly_eq, tableAt_tableSet (h.tableSet _ _), tableAt_tableSet h]
  by_cases hk : k = i
  · simp [hk, hspan]
  · simp [hk]

/-! ## The loop registers (rule R127) -/

/-- The sequencer's place in the loops: stage, twiddle index, untouched operand. -/
def loopPosition (s : State) : Nat × Nat × Nat := (s.regS.toNat, s.regM.toNat, s.regI.toNat)

/-- The place after a butterfly, none after the last: innermost the operand, then the twiddle index, then the stage. -/
def nextPosition (stage m i : Nat) : Option (Nat × Nat × Nat) :=
  if i + 2 * halfSpan stage < 128 then some (stage, m, i + 2 * halfSpan stage)
  else if m + 1 < halfSpan stage then some (stage, m + 1, m + 1)
  else if stage + 1 < 7 then some (stage + 1, 0, 0)
  else none

/-- What an advance writes: the loop registers, the phase and the flag `FFT_DONE`. -/
theorem bflyAdvance_frame (s : State) : bflyAdvance s =
    { s with
      fftPh := (bflyAdvance s).fftPh, fftDone := (bflyAdvance s).fftDone
      regS := (bflyAdvance s).regS, regM := (bflyAdvance s).regM, regI := (bflyAdvance s).regI } := by
  rcases bflyAdvance_cases s with ⟨-, heq⟩ | ⟨-, -, heq⟩ | ⟨-, -, -, heq⟩ | ⟨-, -, -, heq⟩ <;> rw [heq]

theorem bflyAdvance_fr (s : State) : (bflyAdvance s).fr = s.fr := (congrArg State.fr (bflyAdvance_frame s) :)

theorem bflyAdvance_fi (s : State) : (bflyAdvance s).fi = s.fi := (congrArg State.fi (bflyAdvance_frame s) :)

/-- An advance of a stage in range goes to the next place, where no register wraps, or to IDLE. -/
theorem bflyAdvance_position {s : State} (hS : s.regS.toNat < 7) :
    match nextPosition s.regS.toNat s.regM.toNat s.regI.toNat with
    | some p => (bflyAdvance s).fftPh = s.fftPh ∧ (bflyAdvance s).fftDone = s.fftDone ∧
        loopPosition (bflyAdvance s) = p
    | none => bflyAdvance s = { s with fftPh := .idle, fftDone := true, regS := 0, regM := 0, regI := 0 } := by
  obtain ⟨-, hspan⟩ := halfSpan_pos_and_le hS
  unfold nextPosition
  rcases bflyAdvance_cases s with ⟨hpos, heq⟩ | ⟨hpos, htw, heq⟩ | ⟨hpos, htw, hst, heq⟩ | ⟨hpos, htw, hst, heq⟩
  · rw [if_pos hpos]
    exact ⟨by rw [heq], by rw [heq], by rw [heq, loopPosition, BitVec.toNat_ofNat, Nat.mod_eq_of_lt hpos]⟩
  · have hsucc : (s.regM + 1).toNat = s.regM.toNat + 1 := toNat_add_one (by omega)
    rw [if_neg (by omega), if_pos htw]
    exact ⟨by rw [heq], by rw [heq], by rw [heq, loopPosition, hsucc]⟩
  · have hsucc : (s.regS + 1).toNat = s.regS.toNat + 1 := toNat_add_one (by omega)
    rw [if_neg (by omega), if_neg (by omega), if_pos (by omega)]
    exact ⟨by rw [heq], by rw [heq], by rw [heq, loopPosition, hsucc]; rfl⟩
  · rw [if_neg (by omega), if_neg (by omega), if_neg (by omega)]
    exact heq

theorem bflyAdvance_of_next {s : State} {p : Nat × Nat × Nat} (hS : s.regS.toNat < 7)
    (hnext : nextPosition s.regS.toNat s.regM.toNat s.regI.toNat = some p) :
    (bflyAdvance s).fftPh = s.fftPh ∧ (bflyAdvance s).fftDone = s.fftDone ∧ loopPosition (bflyAdvance s) = p := by
  simpa only [hnext] using bflyAdvance_position hS

theorem bflyAdvance_of_last {s : State} (hS : s.regS.toNat < 7)
    (hnext : nextPosition s.regS.toNat s.regM.toNat s.regI.toNat = none) :
    bflyAdvance s = { s with fftPh := .idle, fftDone := true, regS := 0, regM := 0, regI := 0 } := by
  simpa only [hnext] using bflyAdvance_position hS

/-! ## FFT.BFLY -/

theorem angleIndex_eq (stage m : Nat) : angleIndex stage m = m * 2 ^ (6 - stage) := Nat.shiftLeft_eq m _

theorem angleIndex_lt {stage m : Nat} (hs : stage < 7) (hm : m < halfSpan stage) : angleIndex stage m < 64 := by
  interval_cases stage <;> simp only [halfSpan, angleIndex, Nat.shiftLeft_eq] at * <;> omega

theorem exec_fftBfly_of_bfly {s : State} (h : MachineOk s) (hph : s.fftPh = .bfly) :
    exec .fftBfly s = .next (bflyAdvance (bflyCells s)) := by
  rw [← stepAgent_fft_of_bfly h hph, stepAgent, stepFft, hph, exec]

theorem exec_fftBfly_of_not_bfly {s : State} (hph : s.fftPh ≠ .bfly) : exec .fftBfly s = .next s :=
  whenEnabled_of_disabled (by simpa [bflyEnabled] using hph) ..

/-- What FFT.BFLY writes: the two arrays and what its advance writes. -/
theorem bflyAdvance_bflyCells_frame (s : State) : bflyAdvance (bflyCells s) =
    { s with
      fr := (bflyAdvance (bflyCells s)).fr, fi := (bflyAdvance (bflyCells s)).fi
      fftPh := (bflyAdvance (bflyCells s)).fftPh, fftDone := (bflyAdvance (bflyCells s)).fftDone
      regS := (bflyAdvance (bflyCells s)).regS, regM := (bflyAdvance (bflyCells s)).regM
      regI := (bflyAdvance (bflyCells s)).regI } := by
  rw [bflyAdvance_fr, bflyAdvance_fi]
  exact bflyAdvance_frame (bflyCells s)

/-- The four registers of rule R127 as numbers, with the phase and the flag, after the advance of a busy sequencer. -/
theorem bflyAdvance_registers {s : State} (hph : s.fftPh = .bfly) (hdone : s.fftDone = false)
    (hS : s.regS.toNat < 7) :
    ((bflyAdvance s).fftPh, (bflyAdvance s).fftDone, (bflyAdvance s).regS.toNat, (bflyAdvance s).regM.toNat,
        (bflyAdvance s).regI.toNat) =
      if s.regI.toNat + 2 * halfSpan s.regS.toNat < 128 then
        (.bfly, false, s.regS.toNat, s.regM.toNat, s.regI.toNat + 2 * halfSpan s.regS.toNat)
      else if s.regM.toNat + 1 < halfSpan s.regS.toNat then
        (.bfly, false, s.regS.toNat, s.regM.toNat + 1, s.regM.toNat + 1)
      else if s.regS.toNat + 1 < 7 then (.bfly, false, s.regS.toNat + 1, 0, 0)
      else (.idle, true, 0, 0, 0) := by
  have hadv := bflyAdvance_position hS
  unfold nextPosition at hadv
  split_ifs at hadv ⊢
  case neg =>
    simp only at hadv
    rw [hadv]
    rfl
  all_goals
    obtain ⟨hph', hdone', hpos⟩ := hadv
    rw [hph', hdone', hph, hdone]
    exact congrArg (fun p => (FftPhase.bfly, false, p)) hpos

/-- Settles O24: the cells by `tableAt_butterfly`, the registers by `bflyAdvance_registers`. -/
theorem butterflyStep : Obligations.ButterflyStep := by
  refine ⟨rfl, fun s => exec_fftBfly_of_not_bfly, ?_⟩
  rintro s h hph _ _ _ _ _ _ _ _ _ _ _ _ rfl rfl rfl rfl rfl rfl rfl rfl rfl rfl rfl rfl
  obtain ⟨hS, hM, hI⟩ := h.fft.at_bfly hph
  have hj := (butterfly_indices_lt hS hM hI s.regI.isLt).1
  have ha := angleIndex_lt hS hM
  have hdone : s.fftDone = false := by simpa using h.fft.not_done (by simp [hph])
  have hcell := tableAt_butterfly h.memories.tableOk s.cfg s.regS.toNat s.regM.toNat s.regI.toNat
  rw [← halfSpan_eq_two_pow, ← angleIndex_eq]
  refine ⟨by omega, hM, by omega, by omega, bflyAdvance (bflyCells s), exec_fftBfly_of_bfly h hph, fun k => ?_,
    fun k => ?_, bflyAdvance_bflyCells_frame s, bflyAdvance_registers hph hdone hS⟩
  · rw [bflyAdvance_fr]
    refine (congrArg Cplx.re (hcell k)).trans ?_
    split_ifs <;> rfl
  · rw [bflyAdvance_fi]
    refine (congrArg Cplx.im (hcell k)).trans ?_
    split_ifs <;> rfl

end Sys2Proof.Machine
end

section
/-! PROOFS. The reorder phase (statement SwapStep): one exchange, and by induction on the indices left the permutation
of the whole phase. -/

namespace Sys2Proof.Machine

/-! ## Bit reversal of any index -/

/-- `rev7` on the indices of `FR`; a number that is no index stays. -/
def revIndex (k : Nat) : Nat := if k < 128 then (rev7 (BitVec.ofNat 7 k)).toNat else k

theorem revIndex_toNat (i : BitVec 7) : revIndex i.toNat = (rev7 i).toNat := by
  rw [revIndex, if_pos i.isLt, BitVec.ofNat_toNat, BitVec.setWidth_eq]

theorem revIndex_of_ge {k : Nat} (h : 128 ≤ k) : revIndex k = k := if_neg (Nat.not_lt.2 h)

theorem exists_index_of_lt {k : Nat} (h : k < 128) : ∃ i : BitVec 7, i.toNat = k :=
  ⟨BitVec.ofNat 7 k, Nat.mod_eq_of_lt h⟩

theorem revIndex_revIndex (k : Nat) : revIndex (revIndex k) = k := by
  rcases Nat.lt_or_ge k 128 with h | h
  · obtain ⟨i, rfl⟩ := exists_index_of_lt h
    rw [revIndex_toNat, revIndex_toNat, rev7_rev7]
  · rw [revIndex_of_ge h, revIndex_of_ge h]

theorem revIndex_zero : revIndex 0 = 0 := by decide

theorem revIndex_eq_zero_iff {k : Nat} : revIndex k = 0 ↔ k = 0 :=
  ⟨fun h => by rw [← revIndex_revIndex k, h, revIndex_zero], fun h => by rw [h, revIndex_zero]⟩

theorem revIndex_lt {k : Nat} (h : k < 128) : revIndex k < 128 := by
  obtain ⟨i, rfl⟩ := exists_index_of_lt h
  rw [revIndex_toNat]
  exact (rev7 i).isLt

/-! ## One exchange (rule R126) -/

theorem read_swapCells {fr : Memory 16} (h : Memory.wf fr = true) (m : BitVec 7) (k : Nat) :
    (swapCells m fr).read k =
      if m.toNat < (rev7 m).toNat ∧ k = m.toNat then fr.read (rev7 m).toNat
      else if m.toNat < (rev7 m).toNat ∧ k = (rev7 m).toNat then fr.read m.toNat
      else fr.read k := by
  unfold swapCells
  by_cases hlt : m.toNat < (rev7 m).toNat
  · rw [if_pos hlt, Memory.read_write (Memory.wf_write h ..), Memory.read_write h]
    by_cases hk : k = m.toNat
    · rw [if_neg (by omega), if_pos hk, if_pos ⟨hlt, hk⟩]
    · simp [hk, hlt]
  · simp [hlt]

/-- The exchange as a permutation: `m` and its mirror, if `m` comes first, are read at their mirrors. -/
theorem read_swapCells_eq_mirror {fr : Memory 16} (h : Memory.wf fr = true) (m : BitVec 7) (k : Nat) :
    (swapCells m fr).read k =
      if m.toNat ≤ revIndex m.toNat ∧ (k = m.toNat ∨ k = revIndex m.toNat) then fr.read (revIndex k)
      else fr.read k := by
  rw [read_swapCells h, ← revIndex_toNat]
  by_cases hm : k = m.toNat
  · subst hm
    by_cases hlt : m.toNat < revIndex m.toNat
    · simp [hlt, hlt.le]
    · by_cases heq : m.toNat = revIndex m.toNat
      · simp [← heq]
      · simp [hlt, show ¬m.toNat ≤ revIndex m.toNat by omega]
  · by_cases hr : k = revIndex m.toNat
    · subst hr
      have hne : m.toNat ≠ revIndex m.toNat := fun heq => hm heq.symm
      simp [hm, Nat.lt_iff_le_and_ne, hne, revIndex_revIndex]
    · simp [hm, hr]

theorem exec_fftSwap_of_reorder {s : State} (hph : s.fftPh = .reorder) :
    exec .fftSwap s = .next (swapAdvance { s with fr := swapCells s.regM s.fr }) := by
  rw [← stepAgent_fft_of_reorder hph, stepAgent, stepFft, hph, exec]

theorem exec_fftSwap_of_not_reorder {s : State} (hph : s.fftPh ≠ .reorder) : exec .fftSwap s = .next s :=
  whenEnabled_of_disabled (by simpa [swapEnabled] using hph) ..

theorem swapAdvance_fr (s : State) : (swapAdvance s).fr = s.fr := by
  rcases swapAdvance_cases s with ⟨-, heq⟩ | ⟨-, heq⟩ <;> rw [heq]

/-! ## The whole phase -/

/-- The first `n` writes of the pass that `bitReverse` makes. -/
def reverseFirst (n : Nat) (fr : Memory 16) : Memory 16 :=
  (List.range n).foldl (fun acc i => acc.write i (fr.read (rev7 (BitVec.ofNat 7 i)).toNat)) fr

theorem bitReverse_eq (fr : Memory 16) : bitReverse fr = reverseFirst 128 fr := rfl

theorem reverseFirst_succ (n : Nat) (fr : Memory 16) :
    reverseFirst (n + 1) fr = (reverseFirst n fr).write n (fr.read (rev7 (BitVec.ofNat 7 n)).toNat) := by
  rw [reverseFirst, List.range_succ, List.foldl_append, List.foldl_cons, List.foldl_nil, reverseFirst]

theorem reverseFirst_wf {fr : Memory 16} (h : Memory.wf fr = true) (n : Nat) :
    Memory.wf (reverseFirst n fr) = true := by
  induction n with
  | zero => exact h
  | succ n ih =>
    rw [reverseFirst_succ]
    exact Memory.wf_write ih ..

theorem read_reverseFirst {fr : Memory 16} (h : Memory.wf fr = true) {n : Nat} (hn : n ≤ 128) (k : Nat) :
    (reverseFirst n fr).read k = if k < n then fr.read (revIndex k) else fr.read k := by
  induction n with
  | zero => rfl
  | succ n ih =>
    rw [reverseFirst_succ, Memory.read_write (reverseFirst_wf h n), ih (by omega)]
    by_cases hk : k = n
    · rw [if_pos hk, if_pos (by omega), revIndex, if_pos (by omega), hk]
    · simp only [hk, if_false, show k < n + 1 ↔ k < n by omega]

theorem bitReverse_wf {fr : Memory 16} (h : Memory.wf fr = true) : Memory.wf (bitReverse fr) = true := by
  rw [bitReverse_eq]
  exact reverseFirst_wf h 128

theorem read_bitReverse {fr : Memory 16} (h : Memory.wf fr = true) (k : Nat) :
    (bitReverse fr).read k = fr.read (revIndex k) := by
  rw [bitReverse_eq, read_reverseFirst h (Nat.le_refl 128)]
  split
  · rfl
  · rw [revIndex_of_ge (by omega)]

/-- `fr'` is `fr` with the pairs of mirrored indices from `lo` on exchanged. -/
structure MirroredFrom (lo : Nat) (fr fr' : Memory 16) : Prop where
  wf : Memory.wf fr' = true
  read : ∀ k, fr'.read k = if lo ≤ k ∧ lo ≤ revIndex k then fr.read (revIndex k) else fr.read k

theorem MirroredFrom.refl {fr : Memory 16} (h : Memory.wf fr = true) : MirroredFrom 128 fr fr := by
  refine ⟨h, fun k => ?_⟩
  split
  · rw [revIndex_of_ge (by omega)]
  · rfl

/-- An exchange at `m`, then those after `m`. -/
theorem MirroredFrom.swap {fr fr' : Memory 16} (h : Memory.wf fr = true) (m : BitVec 7)
    (hrest : MirroredFrom (m.toNat + 1) (swapCells m fr) fr') : MirroredFrom m.toNat fr fr' := by
  refine ⟨hrest.wf, fun k => ?_⟩
  have hinv := revIndex_revIndex k
  have hmirror : revIndex k = m.toNat → k = revIndex m.toNat := fun hk => by rw [← hk, hinv]
  rw [hrest.read]
  by_cases hlater : m.toNat + 1 ≤ k ∧ m.toNat + 1 ≤ revIndex k
  · have hself : revIndex k ≠ revIndex m.toNat := fun hk => by
      have hkm : k = m.toNat := by rw [← hinv, hk, revIndex_revIndex]
      omega
    rw [if_pos hlater, if_pos (by omega), read_swapCells_eq_mirror h, if_neg (by omega)]
  · rw [if_neg hlater, read_swapCells_eq_mirror h]
    refine if_congr ⟨?_, fun hk => ?_⟩ rfl rfl
    · rintro ⟨hm, rfl | rfl⟩
      · exact ⟨Nat.le_refl _, hm⟩
      · exact ⟨hm, (revIndex_revIndex _).ge⟩
    · by_cases hkm : k = m.toNat
      · exact ⟨hkm ▸ hk.2, .inl hkm⟩
      · have hrev : revIndex k = m.toNat := by omega
        exact ⟨hmirror hrev ▸ hk.1, .inr (hmirror hrev)⟩

/-- From the first index on, every cell is read at its mirror: index 0 is its own. -/
theorem MirroredFrom.read_all {fr fr' : Memory 16} (hall : MirroredFrom 1 fr fr') (k : Nat) :
    fr'.read k = fr.read (revIndex k) := by
  rw [hall.read]
  split
  · rfl
  · rename_i hk
    have hzero : k = 0 := by
      have hmirror := revIndex_eq_zero_iff (k := k)
      omega
    rw [hzero, revIndex_zero]

theorem Memory.eq_of_wf_of_read_eq {w : Nat} {m n : Memory w} (hm : Memory.wf m = true) (hn : Memory.wf n = true)
    (h : ∀ a, m.read a = n.read a) : m = n :=
  Memory.eq_of_read_eq (lo := 0) hm hn h

theorem MirroredFrom.eq_bitReverse {fr fr' : Memory 16} (h : Memory.wf fr = true) (hall : MirroredFrom 1 fr fr') :
    fr' = bitReverse fr :=
  Memory.eq_of_wf_of_read_eq hall.wf (bitReverse_wf h) fun k => by rw [hall.read_all, read_bitReverse h]

/-- From index `M` on the phase takes `128 - M` steps, and each leaves a shorter phase from the next index on. -/
theorem takesSteps_reorder {n : Nat} {s : State} (h : MemoriesOk s) (hph : s.fftPh = .reorder)
    (hn : s.regM.toNat + (n + 1) = 128) :
    ∃ fr', MirroredFrom s.regM.toNat s.fr fr' ∧
      TakesSteps .fft (n + 1) s { s with fr := fr', fftPh := .bfly, regS := 0, regM := 0, regI := 0 } := by
  induction n generalizing s with
  | zero =>
    have hlast : s.regM = 127 := by bv_omega
    have hwf : Memory.wf (swapCells s.regM s.fr) = true := (h.swap s.regM).1
    refine ⟨swapCells s.regM s.fr, .swap h.tableOk.re s.regM (hn ▸ .refl hwf), (agentEnabled_fft s).2 (.inl hph),
      _, stepAgent_fft_of_reorder hph, ?_⟩
    rw [swapAdvance, if_pos hlast, TakesSteps]
  | succ n ih =>
    have hnot : s.regM ≠ 127 := by bv_omega
    have hsucc : (s.regM + 1).toNat = s.regM.toNat + 1 := toNat_add_one (by omega)
    obtain ⟨fr', hrest, hsteps⟩ := ih (s := { s with fr := swapCells s.regM s.fr, regM := s.regM + 1 })
      ⟨h.swap s.regM, h.2⟩ hph (by simp only [hsucc]; omega)
    refine ⟨fr', .swap h.tableOk.re s.regM (hsucc ▸ hrest), (agentEnabled_fft s).2 (.inl hph), _,
      stepAgent_fft_of_reorder hph, ?_⟩
    rw [swapAdvance, if_neg hnot]
    exact hsteps

theorem takesSteps_reorder_all {s : State} (h : MemoriesOk s) (hph : s.fftPh = .reorder) (hM : s.regM = 1) :
    ∃ fr', MirroredFrom 1 s.fr fr' ∧
      TakesSteps .fft 127 s { s with fr := fr', fftPh := .bfly, regS := 0, regM := 0, regI := 0 } := by
  have hM' : s.regM.toNat = 1 := by rw [hM]; rfl
  obtain ⟨fr', hall, hsteps⟩ := takesSteps_reorder (n := 126) h hph (by omega)
  exact ⟨fr', hM' ▸ hall, hsteps⟩

/-- Settles O23: one step by its exchange and advance, the phase by induction on the indices left. -/
theorem swapStep : Obligations.SwapStep := by
  refine ⟨rfl, fun s h hph => ?_, fun s => exec_fftSwap_of_not_reorder, fun s h hph hM => ?_⟩
  · refine ⟨_, exec_fftSwap_of_reorder hph, fun k => ?_, fun hlast => ?_, fun hnot => ?_⟩
    · rw [swapAdvance_fr]
      exact read_swapCells h.tableOk.re s.regM k
    · rw [swapAdvance, if_pos hlast]
    · rw [swapAdvance, if_neg hnot]
  · obtain ⟨fr', hall, hsteps⟩ := takesSteps_reorder_all h hph hM
    exact ⟨_, hsteps, fun i => by rw [hall.read_all, revIndex_toNat], rfl⟩

end Sys2Proof.Machine
end

section
/-! PROOFS. The whole transform (statement TransformRunsToCompletion): the sequencer's places are those of rule R128's
loops in their order, so its run simulates the fold over that order. -/

namespace Sys2Proof.Machine

/-! ## The order of the butterflies is the sequencer's path (rules R127, R128) -/

/-- The sequencer goes from place `p` through the list of places to `q`; `none` is the end of the transform. -/
def LoopPath (p : Option (Nat × Nat × Nat)) (places : List (Nat × Nat × Nat)) (q : Option (Nat × Nat × Nat)) : Prop :=
  match places with
  | [] => p = q
  | b :: rest => p = some b ∧ LoopPath (nextPosition b.1 b.2.1 b.2.2) rest q

theorem LoopPath.append {p q r : Option (Nat × Nat × Nat)} {l l' : List (Nat × Nat × Nat)} (h : LoopPath p l q)
    (h' : LoopPath q l' r) : LoopPath p (l ++ l') r := by
  induction l generalizing p with
  | nil => rw [LoopPath] at h; rwa [List.nil_append, h]
  | cons b rest ih =>
    obtain ⟨hb, hrest⟩ := h
    exact ⟨hb, ih hrest⟩

/-- A loop is a path if each of its rounds leads to the next. -/
theorem LoopPath.flatMap_range {start : Nat → Option (Nat × Nat × Nat)} {round : Nat → List (Nat × Nat × Nat)}
    {n : Nat} (h : ∀ k < n, LoopPath (start k) (round k) (start (k + 1))) :
    LoopPath (start 0) ((List.range n).flatMap round) (start n) := by
  induction n with
  | zero => rfl
  | succ n ih =>
    rw [List.range_succ, List.flatMap_append, List.flatMap_singleton]
    exact (ih fun k hk => h k (by omega)).append (h n (by omega))

/-- Where a stage begins. -/
def stageStart (stage : Nat) : Option (Nat × Nat × Nat) := if stage < 7 then some (stage, 0, 0) else none

/-- Where a twiddle index of a stage begins. -/
def rowStart (stage m : Nat) : Option (Nat × Nat × Nat) :=
  if m < halfSpan stage then some (stage, m, m) else stageStart (stage + 1)

/-- The `k`-th position of a twiddle index. -/
def rowPlace (stage m k : Nat) : Option (Nat × Nat × Nat) :=
  if k < 64 >>> stage then some (stage, m, m + k * (2 <<< stage)) else rowStart stage (m + 1)

theorem nextPosition_eq_rowStart (stage m i : Nat) : nextPosition stage m i =
    if i + 2 * halfSpan stage < 128 then some (stage, m, i + 2 * halfSpan stage) else rowStart stage (m + 1) := rfl

theorem two_shiftLeft (stage : Nat) : 2 <<< stage = 2 * halfSpan stage := by
  rw [halfSpan_eq_two_pow, Nat.shiftLeft_eq]

theorem nextPosition_of_rowPlace {stage m k : Nat} (hs : stage < 7) (hm : m < halfSpan stage) (hk : k < 64 >>> stage) :
    nextPosition stage m (m + k * (2 <<< stage)) = rowPlace stage m (k + 1) := by
  have hlast : m + k * (2 <<< stage) + 2 * halfSpan stage < 128 ↔ k + 1 < 64 >>> stage := by
    interval_cases stage <;> simp [halfSpan] at * <;> omega
  rw [nextPosition_eq_rowStart, rowPlace]
  refine if_congr hlast ?_ rfl
  rw [two_shiftLeft, Nat.add_one_mul k, Nat.add_assoc]

theorem loopPath_row {stage m : Nat} (hs : stage < 7) (hm : m < halfSpan stage) :
    LoopPath (rowStart stage m) ((List.range (64 >>> stage)).map fun k => (stage, m, m + k * (2 <<< stage)))
      (rowStart stage (m + 1)) := by
  have hround : ∀ k < 64 >>> stage,
      LoopPath (rowPlace stage m k) [(stage, m, m + k * (2 <<< stage))] (rowPlace stage m (k + 1)) :=
    fun k hk => ⟨if_pos hk, nextPosition_of_rowPlace hs hm hk⟩
  have hpos : 0 < 64 >>> stage := by interval_cases stage <;> decide
  have hfirst : rowPlace stage m 0 = rowStart stage m := by
    rw [rowPlace, if_pos hpos, rowStart, if_pos hm, Nat.zero_mul, Nat.add_zero]
  have hend : rowPlace stage m (64 >>> stage) = rowStart stage (m + 1) := if_neg (Nat.lt_irrefl _)
  rw [List.map_eq_flatMap, ← hfirst, ← hend]
  exact .flatMap_range hround

/-- The butterflies of one stage (rule R128). -/
def stageOrder (stage : Nat) : List (Nat × Nat × Nat) :=
  (List.range (1 <<< stage)).flatMap fun m => (List.range (64 >>> stage)).map fun k => (stage, m, m + k * (2 <<< stage))

theorem butterflyOrder_eq : butterflyOrder = (List.range 7).flatMap stageOrder := rfl

/-- A stage has `L` twiddle indices with `64 / L` positions each. -/
theorem stageOrder_length {stage : Nat} (hs : stage < 7) : (stageOrder stage).length = 64 := by
  have hproduct : (1 <<< stage) * (64 >>> stage) = 64 := by interval_cases stage <;> rfl
  simpa [stageOrder, List.length_flatMap] using hproduct

theorem butterflyOrder_length : butterflyOrder.length = 448 := by
  have hlengths : (List.range 7).map (fun stage => (stageOrder stage).length) = (List.range 7).map fun _ => 64 :=
    List.map_congr_left fun stage hs => stageOrder_length (List.mem_range.1 hs)
  rw [butterflyOrder_eq, List.length_flatMap, hlengths]
  rfl

theorem loopPath_stage {stage : Nat} (hs : stage < 7) :
    LoopPath (stageStart stage) (stageOrder stage) (stageStart (stage + 1)) := by
  have hfirst : rowStart stage 0 = stageStart stage := by
    rw [rowStart, if_pos (halfSpan_pos stage), stageStart, if_pos hs]
  have hend : rowStart stage (halfSpan stage) = stageStart (stage + 1) := if_neg (Nat.lt_irrefl _)
  rw [← hfirst, ← hend]
  exact .flatMap_range fun m hm => loopPath_row hs hm

theorem loopPath_butterflyOrder : LoopPath (some (0, 0, 0)) butterflyOrder none :=
  LoopPath.flatMap_range (start := stageStart) fun _ => loopPath_stage

/-! ## The butterfly phase -/

/-- Butterflies on the arrays, one after the other. -/
def runButterflies (c : Config) (l : List (Nat × Nat × Nat)) (t : Table) : Table :=
  l.foldl (fun acc b => butterfly c b.1 b.2.1 b.2.2 acc) t

theorem transform_eq (c : Config) (fr fi : Memory 16) :
    transform c (fr, fi) = runButterflies c butterflyOrder (bitReverse fr, fi) := rfl

/-- The state when the butterflies left are done. -/
def afterButterflies (l : List (Nat × Nat × Nat)) (s : State) : State :=
  { s with
    fr := (runButterflies s.cfg l (s.fr, s.fi)).1, fi := (runButterflies s.cfg l (s.fr, s.fi)).2
    fftPh := .idle, fftDone := true, regS := 0, regM := 0, regI := 0 }

/-- The first butterfly's step belongs to the run: what it writes beside the arrays is written again at the end. -/
theorem afterButterflies_step (l : List (Nat × Nat × Nat)) (s : State) :
    afterButterflies l (bflyAdvance (bflyCells s)) = afterButterflies (loopPosition s :: l) s := by
  rw [bflyAdvance_frame (bflyCells s)]
  rfl

/-- A busy sequencer on the path takes one step for each place of it. -/
theorem takesSteps_butterflies {l : List (Nat × Nat × Nat)} {p : Nat × Nat × Nat} {s : State} (h : MachineOk s)
    (hph : s.fftPh = .bfly) (hat : loopPosition s = p) (hpath : LoopPath (some p) l none) :
    TakesSteps .fft l.length s (afterButterflies l s) := by
  induction l generalizing p s with
  | nil => cases hpath
  | cons b rest ih =>
    obtain ⟨hb, hrest⟩ := hpath
    obtain rfl : loopPosition s = b := hat.trans (Option.some.inj hb)
    refine ⟨(agentEnabled_fft s).2 (.inr hph), _, stepAgent_fft_of_bfly h hph, ?_⟩
    have hS := (h.fft.at_bfly hph).1
    rw [← afterButterflies_step]
    cases hnext : nextPosition s.regS.toNat s.regM.toNat s.regI.toNat with
    | none =>
      cases rest with
      | nil =>
        rw [bflyAdvance_of_last (s := bflyCells s) hS hnext]
        rfl
      | cons => exact absurd (hnext.symm.trans hrest.1) nofun
    | some p =>
      obtain ⟨hph', -, hpos⟩ := bflyAdvance_of_next (s := bflyCells s) hS hnext
      exact ih (properStep_of_bfly h hph).ok (hph'.trans hph) hpos (hnext ▸ hrest)

/-- The whole phase is step (2) of rule R128. The order is named by a variable, so that its 448 places are not
unfolded. -/
theorem takesSteps_bfly_all {s : State} (h : MachineOk s) (hph : s.fftPh = .bfly) (hat : loopPosition s = (0, 0, 0)) :
    TakesSteps .fft 448 s (afterButterflies butterflyOrder s) := by
  generalize hl : butterflyOrder = l
  have hlength : l.length = 448 := hl ▸ butterflyOrder_length
  rw [← hlength]
  exact takesSteps_butterflies h hph hat (hl ▸ loopPath_butterflyOrder)

/-! ## From FFT.START to IDLE -/

/-- Enabled steps keep the invariant. -/
theorem MachineOk.of_takesSteps {a : Agent} {n : Nat} {s t : State} (h : MachineOk s) (hsteps : TakesSteps a n s t) :
    MachineOk t := by
  induction n generalizing s with
  | zero => rw [TakesSteps] at hsteps; exact hsteps ▸ h
  | succ n ih =>
    obtain ⟨he, u, hu, hrest⟩ := hsteps
    obtain ⟨u', hu', hproper⟩ := exists_properStep h he
    obtain rfl : u = u' := by injection hu.symm.trans hu'
    exact ih hproper.ok hrest

/-- The state after FFT.START in an idle unit (rule R122). -/
def startedFft (s : State) : State :=
  { s with
    fftPh := .reorder, regM := 1, regS := 0, regI := 0, fftDone := false
    resp := some (responseWord .ack 0) }

theorem MachineOk.startedFft {s : State} (h : MachineOk s) : MachineOk (startedFft s) := by
  have hresp : ResponseOk (Machine.startedFft s) := by
    change responseShape (responseWord .ack 0) = true
    decide
  have hfft : FftOk (Machine.startedFft s) := fftOk_of_reorder rfl nofun rfl rfl Nat.one_pos
  exact ⟨h.config, h.memories, hfft, h.streamer, h.receiver, h.raster, hresp⟩

/-- Settles O39: the reorder phase is step (1) of rule R128, the butterfly phase the fold of step (2). -/
theorem transformRunsToCompletion : Obligations.TransformRunsToCompletion := by
  refine ⟨fun fr i h => by rw [read_bitReverse h, revIndex_toNat], butterflyOrder_length, fun s h hidle => ?_⟩
  obtain ⟨hS, hM, hI⟩ := h.fft.1 hidle
  have hok := h.startedFft
  obtain ⟨fr', hall, hreorder⟩ := takesSteps_reorder_all hok.memories rfl rfl
  have hbfly := takesSteps_bfly_all (hok.of_takesSteps hreorder) rfl rfl
  refine ⟨startedFft s, _, _, exec_fftStart_of_idle hidle, hreorder, rfl, hbfly, rfl, ?_⟩
  rw [transform_eq, ← hall.eq_bitReverse h.memories.tableOk.re]
  calc _ = { s with
            fr := (runButterflies s.cfg butterflyOrder (fr', s.fi)).1
            fi := (runButterflies s.cfg butterflyOrder (fr', s.fi)).2
            fftPh := .idle, fftDone := true, regS := 0, regM := 0, regI := 0
            resp := some (responseWord .ack 0) } := rfl
    _ = _ := by rw [hidle, hS, hM, hI]

end Sys2Proof.Machine
end

section
/-! PROOFS. Exact small transforms (statement ExactSmallTransforms): the butterflies of a stage have disjoint cells that
cover the arrays, so a stage takes the arrays from one function of the index to the next; a constant and an impulse
follow stage by stage. -/

namespace Sys2Proof.Machine

/-! ## Butterflies on disjoint cells -/

/-- The cell is one of a butterfly's two. -/
def Touches (b : Nat × Nat × Nat) (k : Nat) : Prop := k = b.2.2 ∨ k = b.2.2 + halfSpan b.1

/-- The butterfly at a place takes the values `V` of its two cells to the values `W`. -/
def ButterflyTakes (c : Config) (V W : Nat → Cplx) (stage m i : Nat) : Prop :=
  bflyLow c (twiddle c stage m) (V i) (V (i + halfSpan stage)) = W i ∧
  bflyHigh c (twiddle c stage m) (V i) (V (i + halfSpan stage)) = W (i + halfSpan stage)

theorem tableAt_butterfly_untouched {t : Table} (h : TableOk t) (c : Config) {b : Nat × Nat × Nat} {k : Nat}
    (hk : ¬Touches b k) : tableAt (butterfly c b.1 b.2.1 b.2.2 t) k = tableAt t k := by
  obtain ⟨hlow, hhigh⟩ := not_or.1 hk
  rw [tableAt_butterfly h, if_neg hhigh, if_neg hlow]

theorem tableAt_butterfly_touched {t : Table} (h : TableOk t) {c : Config} {V W : Nat → Cplx} {b : Nat × Nat × Nat}
    (hV : ∀ k, Touches b k → tableAt t k = V k) (hb : ButterflyTakes c V W b.1 b.2.1 b.2.2) {k : Nat}
    (hk : Touches b k) : tableAt (butterfly c b.1 b.2.1 b.2.2 t) k = W k := by
  obtain ⟨hlow, hhigh⟩ := hb
  rw [tableAt_butterfly h, hV _ (.inl rfl), hV _ (.inr rfl)]
  split
  · rename_i hj
    rw [hj, hhigh]
  · rename_i hj
    have hi : k = b.2.2 := hk.resolve_right hj
    rw [if_pos hi, hi, hlow]

theorem runButterflies_cons (c : Config) (b : Nat × Nat × Nat) (l : List (Nat × Nat × Nat)) (t : Table) :
    runButterflies c (b :: l) t = runButterflies c l (butterfly c b.1 b.2.1 b.2.2 t) := rfl

theorem TableOk.runButterflies {t : Table} (h : TableOk t) (c : Config) (l : List (Nat × Nat × Nat)) :
    TableOk (runButterflies c l t) := by
  induction l generalizing t with
  | nil => exact h
  | cons b rest ih => exact ih (h.butterfly c b.1 b.2.1 b.2.2)

theorem tableAt_runButterflies_untouched {t : Table} (h : TableOk t) (c : Config) {l : List (Nat × Nat × Nat)} {k : Nat}
    (hk : ∀ b ∈ l, ¬Touches b k) : tableAt (runButterflies c l t) k = tableAt t k := by
  induction l generalizing t with
  | nil => rfl
  | cons b rest ih =>
    obtain ⟨hb, hrest⟩ := List.forall_mem_cons.1 hk
    rw [runButterflies_cons, ih (h.butterfly ..) hrest, tableAt_butterfly_untouched h c hb]

/-- Among butterflies on disjoint cells each reads the values there were before all of them, and its results stay. -/
theorem tableAt_runButterflies {c : Config} {V W : Nat → Cplx} {l : List (Nat × Nat × Nat)}
    (hl : l.Pairwise fun b d => ∀ k, Touches b k → ¬Touches d k)
    (htakes : ∀ b ∈ l, ButterflyTakes c V W b.1 b.2.1 b.2.2) {t : Table} (h : TableOk t)
    (hV : ∀ b ∈ l, ∀ k, Touches b k → tableAt t k = V k) {b : Nat × Nat × Nat} (hb : b ∈ l) {k : Nat}
    (hk : Touches b k) : tableAt (runButterflies c l t) k = W k := by
  induction l generalizing t with
  | nil => cases hb
  | cons d rest ih =>
    obtain ⟨hd, hrest⟩ := List.pairwise_cons.1 hl
    obtain ⟨hVd, hVrest⟩ := List.forall_mem_cons.1 hV
    obtain ⟨htd, htrest⟩ := List.forall_mem_cons.1 htakes
    rw [runButterflies_cons]
    rcases List.mem_cons.1 hb with rfl | hb
    · rw [tableAt_runButterflies_untouched (h.butterfly ..) c fun e he => hd e he k hk]
      exact tableAt_butterfly_touched h hVd htd hk
    · refine ih hrest htrest (h.butterfly ..) (fun e he j hj => ?_) hb
      rw [tableAt_butterfly_untouched h c fun hdj => hd e he j hdj hj]
      exact hVrest e he j hj

/-! ## A stage (rule R128) -/

theorem mem_stageOrder {stage : Nat} {b : Nat × Nat × Nat} : b ∈ stageOrder stage ↔
    ∃ m < halfSpan stage, ∃ k < 64 >>> stage, (stage, m, m + k * (2 <<< stage)) = b := by
  simp only [stageOrder, List.mem_flatMap, List.mem_map, List.mem_range, halfSpan]

/-- A cell's twiddle index and position are its remainder and quotient. -/
theorem touches_iff {stage m : Nat} (hs : stage < 7) (hm : m < halfSpan stage) (k cell : Nat) :
    Touches (stage, m, m + k * (2 <<< stage)) cell ↔
      cell % halfSpan stage = m ∧ cell / (2 * halfSpan stage) = k := by
  simp only [Touches, two_shiftLeft]
  interval_cases stage <;> simp only [halfSpan, Nat.shiftLeft_eq] at * <;> omega

theorem stageOrder_pairwise_disjoint {stage : Nat} (hs : stage < 7) :
    (stageOrder stage).Pairwise fun b d => ∀ k, Touches b k → ¬Touches d k := by
  refine List.pairwise_flatMap.2 ⟨fun m hm => ?_, ?_⟩
  · refine List.pairwise_map.2 (List.pairwise_lt_range.imp fun {k k'} hlt cell hk hk' => ?_)
    have hm : m < halfSpan stage := List.mem_range.1 hm
    rw [touches_iff hs hm] at hk hk'
    omega
  · refine List.pairwise_lt_range.imp_of_mem fun {m m'} hm hm' hlt => ?_
    simp only [List.forall_mem_map]
    intro k _ k' _ cell hk hk'
    rw [touches_iff hs (List.mem_range.1 hm)] at hk
    rw [touches_iff hs (List.mem_range.1 hm')] at hk'
    omega

theorem exists_touching {stage cell : Nat} (hs : stage < 7) (hcell : cell < 128) :
    ∃ b ∈ stageOrder stage, Touches b cell := by
  have hm : cell % halfSpan stage < halfSpan stage := Nat.mod_lt _ (halfSpan_pos stage)
  have hk : cell / (2 * halfSpan stage) < 64 >>> stage := by
    interval_cases stage <;> simp [halfSpan] <;> omega
  exact ⟨_, mem_stageOrder.2 ⟨_, hm, _, hk, rfl⟩, (touches_iff hs hm _ _).2 ⟨rfl, rfl⟩⟩

/-- Every butterfly of the stage takes the values `V` of its two cells to the values `W`. -/
def StageTakes (c : Config) (V W : Nat → Cplx) (stage : Nat) : Prop :=
  ∀ m < halfSpan stage, ∀ i, i % (2 * halfSpan stage) = m → ButterflyTakes c V W stage m i

/-- Such a stage takes the arrays from `V` to `W`. -/
theorem tableAt_stage {c : Config} {V W : Nat → Cplx} {stage : Nat} (hs : stage < 7)
    (htakes : StageTakes c V W stage) {t : Table} (h : TableOk t) (hV : ∀ k < 128, tableAt t k = V k) {k : Nat}
    (hk : k < 128) : tableAt (runButterflies c (stageOrder stage) t) k = W k := by
  obtain ⟨b, hb, hbk⟩ := exists_touching hs hk
  refine tableAt_runButterflies (V := V) (stageOrder_pairwise_disjoint hs) ?_ h ?_ hb hbk
  · intro d hd
    obtain ⟨m, hm, q, -, rfl⟩ := mem_stageOrder.1 hd
    refine htakes m hm _ ?_
    rw [two_shiftLeft, Nat.add_mul_mod_self_right, Nat.mod_eq_of_lt (by omega)]
  · intro d hd j hj
    obtain ⟨m, hm, q, hq, rfl⟩ := mem_stageOrder.1 hd
    rw [touches_iff hs hm] at hj
    refine hV j ?_
    interval_cases stage <;> simp [halfSpan] at * <;> omega

theorem runButterflies_append (c : Config) (l l' : List (Nat × Nat × Nat)) (t : Table) :
    runButterflies c (l ++ l') t = runButterflies c l' (runButterflies c l t) := List.foldl_append

/-- Stage by stage, the arrays hold the values `V 0`, `V 1`, ... -/
theorem tableAt_stages {c : Config} {V : Nat → Nat → Cplx} {n : Nat} (hn : n ≤ 7)
    (htakes : ∀ stage < 7, StageTakes c (V stage) (V (stage + 1)) stage) {t : Table} (h : TableOk t)
    (hV : ∀ k < 128, tableAt t k = V 0 k) :
    ∀ k < 128, tableAt (runButterflies c ((List.range n).flatMap stageOrder) t) k = V n k := by
  induction n with
  | zero => exact hV
  | succ n ih =>
    intro k hk
    rw [List.range_succ, List.flatMap_append, List.flatMap_singleton, runButterflies_append]
    exact tableAt_stage hn (htakes n hn) (h.runButterflies ..) (ih (by omega)) hk

/-- The transform of arrays that hold `V 0` after the reorder holds `V 7`; the reordered array is named by a variable, so
that it is not unfolded. -/
theorem tableAt_transform {c : Config} {V : Nat → Nat → Cplx}
    (htakes : ∀ stage < 7, StageTakes c (V stage) (V (stage + 1)) stage) {fr fi : Memory 16}
    (hfr : Memory.wf fr = true) (hfi : Memory.wf fi = true)
    (hV : ∀ k < 128, (⟨fr.read (revIndex k), fi.read k⟩ : Cplx) = V 0 k) {k : Nat} (hk : k < 128) :
    tableAt (transform c (fr, fi)) k = V 7 k := by
  have hwf := bitReverse_wf hfr
  have hread := read_bitReverse hfr
  rw [transform_eq, butterflyOrder_eq]
  generalize bitReverse fr = fr' at hwf hread ⊢
  refine tableAt_stages (Nat.le_refl 7) htakes ⟨hwf, hfi⟩ (fun j hj => ?_) k hk
  rw [tableAt, hread]
  exact hV j hj

/-! ## Butterflies of real values -/

/-- A real Q8.8 value. -/
def realCplx (x : Word) : Cplx := ⟨x, 0#16⟩

theorem mulfixDefault_zero_right (a : Word) : mulfixDefault a 0#16 = 0#16 := by
  rw [mulfixDefault, show sint16 0#16 = 0 from rfl, Int.mul_zero]
  rfl

theorem mulfixDefault_zero_left (a : Word) : mulfixDefault 0#16 a = 0#16 := by
  rw [mulfixDefault, show sint16 0#16 = 0 from rfl, Int.zero_mul]
  rfl

/-- A product with one half, 128/256, is the halved operand. -/
theorem mulfixDefault_half (x : Word) : mulfixDefault 128#16 x = asr1 x := by
  have hhalf : 128 * sint16 x / 256 = sint16 x / 2 := by omega
  rw [mulfixDefault, show sint16 128#16 = 128 from rfl, hhalf, asr1]

theorem asr1_zero : asr1 0#16 = 0#16 := by decide

theorem chalf_realCplx (x : Word) : chalf (realCplx x) = realCplx (asr1 x) := by
  simp [chalf, realCplx, asr1_zero]

theorem cmul_zero (w : Cplx) : cmul Config.default w (realCplx 0#16) = realCplx 0#16 := by
  simp [cmul, realCplx, mulfixDefault_zero_right, sub16_eq_sub, add16_eq_add]

theorem cmul_half (x : Word) : cmul Config.default (realCplx 128#16) (realCplx x) = realCplx (asr1 x) := by
  simp [cmul, realCplx, mulfixDefault_zero_right, mulfixDefault_zero_left, mulfixDefault_half, sub16_eq_sub,
    add16_eq_add]

theorem bflyLow_of_real {c : Config} {w : Cplx} {x y p : Word} (hp : cmul c w (realCplx y) = realCplx p) :
    bflyLow c w (realCplx x) (realCplx y) = realCplx (add16 (asr1 x) p) := by
  rw [bflyLow, hp, chalf_realCplx]
  simp [realCplx, add16_eq_add]

theorem bflyHigh_of_real {c : Config} {w : Cplx} {x y p : Word} (hp : cmul c w (realCplx y) = realCplx p) :
    bflyHigh c w (realCplx x) (realCplx y) = realCplx (sub16 (asr1 x) p) := by
  rw [bflyHigh, hp, chalf_realCplx]
  simp [realCplx, sub16_eq_sub]

/-- With nothing in the multiplied cell both results are the halved untouched cell. -/
theorem bfly_of_zero (w : Cplx) (x : Word) :
    bflyLow Config.default w (realCplx x) (realCplx 0#16) = realCplx (asr1 x) ∧
    bflyHigh Config.default w (realCplx x) (realCplx 0#16) = realCplx (asr1 x) := by
  rw [bflyLow_of_real (cmul_zero w), bflyHigh_of_real (cmul_zero w), add16_eq_add, sub16_eq_sub, BitVec.add_zero,
    BitVec.sub_zero]
  exact ⟨rfl, rfl⟩

/-- The first twiddle factor of every stage is one half. -/
theorem twiddle_zero (stage : Nat) : twiddle Config.default stage 0 = realCplx 128#16 := by
  rw [twiddle, angleIndex_eq, Nat.zero_mul]
  decide

/-- Two equal even cells, with the twiddle factor one half: their value and nothing. -/
theorem bfly_of_equal {x : Word} (h : sint16 x % 2 = 0) :
    bflyLow Config.default (realCplx 128#16) (realCplx x) (realCplx x) = realCplx x ∧
    bflyHigh Config.default (realCplx 128#16) (realCplx x) (realCplx x) = realCplx 0#16 := by
  have hsum : add16 (asr1 x) (asr1 x) = x := by
    rw [add16, sint16_asr1, show sint16 x / 2 + sint16 x / 2 = sint16 x by omega, wrap16_sint16]
  rw [bflyLow_of_real (cmul_half x), bflyHigh_of_real (cmul_half x), hsum, sub16_eq_sub, BitVec.sub_self]
  exact ⟨rfl, rfl⟩

/-! ## A constant (rule R132) -/

/-- A constant before each stage: the multiples of the half-span hold it, the other cells nothing. -/
def constantStage (c : Word) (stage k : Nat) : Cplx := realCplx (if k % 2 ^ stage = 0 then c else 0#16)

theorem constantStage_takes {c : Word} (hc : sint16 c % 2 = 0) {stage : Nat} (hs : stage < 7) :
    StageTakes Config.default (constantStage c stage) (constantStage c (stage + 1)) stage := by
  intro m hm i hi
  have hmods : i % 2 ^ stage = m ∧ (i + 2 ^ stage) % 2 ^ stage = m ∧ i % 2 ^ (stage + 1) = m ∧
      (i + 2 ^ stage) % 2 ^ (stage + 1) ≠ 0 := by
    rw [halfSpan_eq_two_pow] at hm hi
    interval_cases stage <;> omega
  obtain ⟨hmod, hmod', hnext, hnext'⟩ := hmods
  rw [ButterflyTakes, halfSpan_eq_two_pow]
  simp only [constantStage, hmod, hmod', hnext, hnext', if_false]
  by_cases hm0 : m = 0
  · simp only [hm0, if_true, twiddle_zero]
    exact bfly_of_equal hc
  · simp only [hm0, if_false]
    exact asr1_zero ▸ bfly_of_zero _ 0#16

theorem tableAt_transform_constant {fr fi : Memory 16} {c : Word} (hfr : Memory.wf fr = true)
    (hfi : Memory.wf fi = true) (hre : ∀ i < 128, fr.read i = c) (him : ∀ i < 128, fi.read i = 0)
    (hc : sint16 c % 2 = 0) {i : Nat} (hi : i < 128) :
    tableAt (transform Config.default (fr, fi)) i = ⟨if i = 0 then c else 0, 0⟩ := by
  have hstart : ∀ k < 128, (⟨fr.read (revIndex k), fi.read k⟩ : Cplx) = constantStage c 0 k := fun k hk => by
    rw [hre _ (revIndex_lt hk), him k hk, constantStage, pow_zero, Nat.mod_one]
    rfl
  have hmod : i % 2 ^ 7 = i := Nat.mod_eq_of_lt hi
  rw [tableAt_transform (V := constantStage c) (fun _ => constantStage_takes hc) hfr hfi hstart hi,
    constantStage, hmod]
  rfl

/-! ## An impulse (rule R132) -/

/-- An impulse before each stage: halved in every stage, it fills the cells below the half-span. -/
def impulseStage (v : Word) (stage k : Nat) : Cplx := realCplx (if k < 2 ^ stage then asr1^[stage] v else 0#16)

theorem impulseStage_takes (v : Word) (stage : Nat) :
    StageTakes Config.default (impulseStage v stage) (impulseStage v (stage + 1)) stage := by
  intro m hm i hi
  rw [ButterflyTakes]
  rw [halfSpan_eq_two_pow] at hm hi ⊢
  have hdouble : 2 ^ (stage + 1) = 2 * 2 ^ stage := Nat.pow_succ'
  simp only [impulseStage, hdouble, Function.iterate_succ_apply', show ¬i + 2 ^ stage < 2 ^ stage by omega, if_false]
  by_cases hlt : i < 2 ^ stage
  · rw [if_pos hlt, if_pos (by omega), if_pos (by omega)]
    exact bfly_of_zero _ _
  · have hge : ¬i < 2 * 2 ^ stage := fun hlt' => by rw [Nat.mod_eq_of_lt hlt'] at hi; omega
    rw [if_neg hlt, if_neg hge, if_neg (by omega)]
    exact asr1_zero ▸ bfly_of_zero _ 0#16

theorem sint16_iterate_asr1 (v : Word) (n : Nat) : sint16 (asr1^[n] v) = sint16 v / 2 ^ n := by
  induction n with
  | zero => simp
  | succ n ih => rw [Function.iterate_succ_apply', sint16_asr1, ih, Int.ediv_ediv_of_nonneg (by positivity), pow_succ]

theorem tableAt_transform_impulse {fr fi : Memory 16} {v : Word} (hfr : Memory.wf fr = true)
    (hfi : Memory.wf fi = true) (hre : ∀ i < 128, fr.read i = if i = 0 then v else 0) (him : ∀ i < 128, fi.read i = 0)
    {i : Nat} (hi : i < 128) :
    tableAt (transform Config.default (fr, fi)) i = ⟨wrap16 (sint16 v / 128), 0⟩ := by
  have hstart : ∀ k < 128, (⟨fr.read (revIndex k), fi.read k⟩ : Cplx) = impulseStage v 0 k := fun k hk => by
    have hmirror : revIndex k = 0 ↔ k < 2 ^ 0 := revIndex_eq_zero_iff.trans Nat.lt_one_iff.symm
    rw [hre _ (revIndex_lt hk), him k hk, impulseStage]
    simp only [hmirror]
    rfl
  have hlast : asr1^[7] v = wrap16 (sint16 v / 128) := by
    rw [← wrap16_sint16 (asr1^[7] v), sint16_iterate_asr1]
    rfl
  rw [tableAt_transform (V := impulseStage v) (fun stage _ => impulseStage_takes v stage) hfr hfi hstart hi,
    impulseStage, if_pos (show i < 2 ^ 7 from hi), hlast]
  rfl

/-- Settles O40: silence is the constant 0; the constant and the impulse are followed through the seven stages.
Halving seven times is dividing by 128 toward minus infinity, whether or not 128 divides the impulse. -/
theorem exactSmallTransforms : Obligations.ExactSmallTransforms := by
  refine ⟨fun i hi => ?_, fun fr fi c hfr hfi hre him hc i hi => ?_, fun fr fi v hfr hfi hre him _ i hi => ?_⟩
  · have hzero := tableAt_transform_constant (fr := []) (fi := []) (c := 0) rfl rfl (fun _ _ => rfl) (fun _ _ => rfl)
      rfl hi
    rwa [ite_self] at hzero
  · exact tableAt_transform_constant hfr hfi hre him hc hi
  · exact tableAt_transform_impulse hfr hfi hre him hi

end Sys2Proof.Machine
end

section
/-! PROOFS. The Streamer's commands that write or read its bins, begin a frame or set `FRQ` (statements
StreamerBinsWriteAndRead and SendStartsAFrame, and the first two clauses of FrequencyRangeOnlyCrossesTheLink): which
words name them, what they do in an idle Streamer and what they answer while a frame is in flight. -/

namespace Sys2Proof

/-! ## Words of the Streamer (rules R89, R99) -/

theorem decode_strWrb_word {w : PortWord} (hu : unitField w = 0x2) (ho : opField w = 1) : decode (.word w) =
    if (idxField w).toNat < 32 then
      if (dataField w).toNat ≤ 0xFF then .ok (.strWrb ((idxField w).setWidth 5) ((dataField w).setWidth 8))
      else .error .dataRange
    else .error .indexRange := by
  rw [decode_word_of_unit_str hu, ho]
  simp [decodeStr, need]

theorem decode_strSend_word {w : PortWord} (hu : unitField w = 0x2) (ho : opField w = 2) :
    decode (.word w) = if w = 0x22000000 then .ok .strSend else .error .fieldNotZero := by
  rw [decode_word_of_unit_str hu, ho]
  exact need_no_operands hu ho .strSend

/-- The low bit of a number that is 0 or 1 says which it is. -/
theorem getLsbD_zero_of_le_one {data : Word} (h : data.toNat ≤ 1) : data.getLsbD 0 = decide (data = 1) := by
  have hcases : data = 0 ∨ data = 1 := by bv_omega
  rcases hcases with rfl | rfl <;> rfl

theorem decode_strSetfr_word {w : PortWord} (hu : unitField w = 0x2) (ho : opField w = 3) : decode (.word w) =
    if idxField w = 0 then
      if (dataField w).toNat ≤ 1 then .ok (.strSetfr (decide (dataField w = 1))) else .error .dataRange
    else .error .fieldNotZero := by
  rw [decode_word_of_unit_str hu, ho]
  by_cases hdata : (dataField w).toNat ≤ 1
  · rw [← getLsbD_zero_of_le_one hdata]
    simp [decodeStr, need, hdata]
  · simp [decodeStr, need, hdata]

/-- The checks of a command that reads a bin: the index first, then the unused data field. -/
theorem need_bin_index (idx : BitVec 8) (data : Word) (i : Instr) :
    need (decide (idx.toNat < 32)) .indexRange (need (data == 0) .fieldNotZero (.ok i)) =
      if idx.toNat < 32 then if data = 0 then .ok i else .error .fieldNotZero else .error .indexRange := by
  simp [need]

theorem decode_strRdb_word {w : PortWord} (hu : unitField w = 0x2) (ho : opField w = 4) : decode (.word w) =
    if (idxField w).toNat < 32 then
      if dataField w = 0 then .ok (.strRdb ((idxField w).setWidth 5)) else .error .fieldNotZero
    else .error .indexRange := by
  rw [decode_word_of_unit_str hu, ho]
  exact need_bin_index ..

end Sys2Proof

namespace Sys2Proof.Machine

/-! ## The refusal while a frame is in flight (rules R31, R99) -/

theorem unlessStrBusy_of_idle {s : State} (h : s.strPh = .idle) (go : Result) : unlessBusy (strBusy s) s go = go := by
  have hb : strBusy s = false := by simp [strBusy_eq_decide, h]
  rw [hb, unlessBusy_of_idle]

theorem unlessStrBusy_of_busy {s : State} (h : s.strPh ≠ .idle) (go : Result) :
    unlessBusy (strBusy s) s go = .next { s with resp := some (responseWord .nakBusy 0) } := by
  have hb : strBusy s = true := by simp [strBusy_eq_decide, h]
  rw [hb, unlessBusy_of_busy, State.respond]

/-! ## The commands (rules R142 to R145) -/

theorem exec_strWrb_of_idle {s : State} (h : s.strPh = .idle) (idx : BitVec 5) (byte : Byte) :
    exec (.strWrb idx byte) s = .next
      { s with txbins := s.txbins.write idx.toNat byte, resp := some (responseWord .ack 0) } :=
  unlessStrBusy_of_idle h _

theorem exec_strSend_of_idle {s : State} (h : s.strPh = .idle) : exec .strSend s = .next
    { s with dr := true, regCh := 0, regBy := 0, strPh := .waitrr, resp := some (responseWord .ack 0) } :=
  unlessStrBusy_of_idle h _

/-- STR.SETFR has no busy check. -/
theorem exec_strSetfr (s : State) (b : Bool) :
    exec (.strSetfr b) s = .next { s with frq := b, resp := some (responseWord .ack 0) } := rfl

theorem byteData_eq_ofNat (b : Byte) : byteData b = BitVec.ofNat 16 b.toNat := (BitVec.ofNat_toNat 16 b).symm

/-- STR.RDB has no busy check. -/
theorem exec_strRdb (s : State) (idx : BitVec 5) : exec (.strRdb idx) s =
    .next { s with resp := some (responseWord .ack (BitVec.ofNat 16 (s.txbins.read idx.toNat).toNat)) } := by
  rw [← byteData_eq_ofNat]
  rfl

/-- Settles O13: the write, read back in a canonical memory; the read answers the cell in every phase. -/
theorem streamerBinsWriteAndRead : Obligations.StreamerBinsWriteAndRead := by
  refine ⟨fun _ => decode_strWrb_word, fun _ => decode_strRdb_word, fun s idx byte hmem hidle => ?_,
    fun s idx byte hbusy => unlessStrBusy_of_busy hbusy _, exec_strRdb⟩
  obtain ⟨-, -, ⟨htx, -⟩, -⟩ := hmem
  exact ⟨_, exec_strWrb_of_idle hidle idx byte, fun k => Memory.read_write htx _ k _, rfl⟩

/-- Settles O14: the command's word, its effect in an idle Streamer and its refusal in a busy one. -/
theorem sendStartsAFrame : Obligations.SendStartsAFrame :=
  ⟨fun _ => decode_strSend_word, fun _ => exec_strSend_of_idle, fun _ hbusy => unlessStrBusy_of_busy hbusy _⟩

end Sys2Proof.Machine
end

section
/-! PROOFS. The micro-operations of the Streamer, the link and the Receiver, one at a time (statements StreamerSteps,
LinkSteps, PollAndReadyOffSteps and ReadByteSteps): each has its effect where its enabling clause holds, and holds
elsewhere. -/

namespace Sys2Proof.Machine

/-! ## Enabling clauses as propositions (rules R147 to R150, R155, R157) -/

theorem waitrrEnabled_iff (s : State) : waitrrEnabled s = true ↔ s.strPh = .waitrr ∧ s.rr = true := by
  simp [waitrrEnabled]

theorem pushEnabled_iff (s : State) : pushEnabled s = true ↔ s.strPh = .push ∧ s.thr = none := by
  simp [pushEnabled, txe]

theorem finEnabled_iff (s : State) : finEnabled s = true ↔ s.strPh = .waittxc ∧ s.thr = none ∧ s.tsr = none := by
  simp [finEnabled, txc]

theorem loadEnabled_iff (s : State) : loadEnabled s = true ↔ s.thr ≠ none ∧ s.tsr = none := by
  simp [loadEnabled, Option.isSome_iff_ne_none]

theorem pollEnabled_iff (s : State) : pollEnabled s = true ↔ s.snkPh = .rpoll := by
  simp [pollEnabled]

theorem rd0Enabled_iff (s : State) : rd0Enabled s = true ↔ s.snkPh = .rrd0 ∧ s.rxq ≠ [] := by
  simp [rd0Enabled, rxc]

theorem rdyoffEnabled_iff (s : State) : rdyoffEnabled s = true ↔ s.snkPh = .rrdyoff := by
  simp [rdyoffEnabled]

theorem rdnEnabled_iff (s : State) : rdnEnabled s = true ↔ s.snkPh = .rrdn ∧ s.rxq ≠ [] := by
  simp [rdnEnabled, rxc]

/-- A micro-operation whose enabling clause says `p` has its effect where `p` holds. -/
theorem whenEnabled_of_clause {b : Bool} {p : Prop} (hb : b = true ↔ p) (hp : p) (s : State) (go : Result) :
    whenEnabled b s go = go :=
  whenEnabled_of_enabled (hb.2 hp) s go

/-- A micro-operation whose enabling clause says `p` holds where `p` fails (rules R16, R19). -/
theorem whenEnabled_of_not_clause {b : Bool} {p : Prop} (hb : b = true ↔ p) (hp : ¬p) (s : State) (go : Result) :
    whenEnabled b s go = .next s :=
  whenEnabled_of_disabled (Bool.eq_false_iff.2 fun h => hp (hb.1 h)) s go

/-! ## The Streamer's pushes (rule R148) -/

/-- The byte pushed next is one of `TXBINS` (rule R65), so a push of an enabled Streamer takes it. -/
theorem exec_strPush_of_enabled {s : State} (hCh : s.regCh.toNat < 8) (hph : s.strPh = .push) (hthr : s.thr = none) :
    exec .strPush s = .next (pushAdvance { s with thr := some (s.txbins.read (pushIndex s)) }) := by
  have hcell : ∀ p ∈ [(Space.txbins, pushIndex s)], p.2 < spaceSize s.cfg p.1 := by
    have hBy : s.regBy.toNat < 4 := s.regBy.isLt
    simp only [List.forall_mem_singleton, pushIndex, spaceSize, numBins]
    omega
  rw [exec, execStrPush, requireCells_of_lt hcell]
  exact whenEnabled_of_clause (pushEnabled_iff s) ⟨hph, hthr⟩ ..

theorem pushIndex_of_last_byte {s : State} (hBy : s.regBy = 3) : pushIndex s = 4 * s.regCh.toNat + 3 := by
  rw [pushIndex, hBy]
  rfl

/-- A push within a chunk. -/
theorem exec_strPush_within_chunk {s : State} (hCh : s.regCh.toNat < 8) (hph : s.strPh = .push) (hthr : s.thr = none)
    (hBy : s.regBy ≠ 3) : exec .strPush s = .next
      { s with thr := some (s.txbins.read (4 * s.regCh.toNat + s.regBy.toNat)), regBy := s.regBy + 1 } := by
  rw [exec_strPush_of_enabled hCh hph hthr, pushAdvance, if_neg hBy]
  rfl

/-- The push that ends a chunk goes on to the next chunk or, after the eighth, to the drain of the transmitter. -/
theorem exec_strPush_end_of_chunk {s : State} (hCh : s.regCh.toNat < 8) (hph : s.strPh = .push) (hthr : s.thr = none)
    (hBy : s.regBy = 3) : exec .strPush s = .next
      { s with
        thr := some (s.txbins.read (4 * s.regCh.toNat + 3)), regBy := 0, regCh := s.regCh + 1
        strPh := if s.regCh + 1 = 8 then .waittxc else .waitrr } := by
  rw [exec_strPush_of_enabled hCh hph hthr, pushAdvance, if_pos hBy, pushIndex_of_last_byte hBy]

/-- Settles O25: the micro-operations by their enabling clauses; a push by its place in the chunk and the frame. -/
theorem streamerSteps : Obligations.StreamerSteps := by
  refine ⟨rfl, fun s hph hrr => whenEnabled_of_clause (waitrrEnabled_iff s) ⟨hph, hrr⟩ ..,
    fun s => (whenEnabled_of_not_clause (waitrrEnabled_iff s) · ..), rfl,
    fun s hCh hph hthr hBy => exec_strPush_within_chunk hCh hph hthr hBy, fun s hCh hph hthr hBy => ?_,
    fun s hCh hph hthr hBy => ?_, fun s => (whenEnabled_of_not_clause (pushEnabled_iff s) · ..), rfl,
    fun s hph hthr htsr => whenEnabled_of_clause (finEnabled_iff s) ⟨hph, hthr, htsr⟩ ..,
    fun s => (whenEnabled_of_not_clause (finEnabled_iff s) · ..)⟩
  · have hmore : s.regCh + 1 ≠ 8 := by bv_omega
    rw [exec_strPush_end_of_chunk (by omega) hph hthr hBy, if_neg hmore]
  · rw [exec_strPush_end_of_chunk (by simp [hCh]) hph hthr hBy, hCh]
    rfl

/-! ## The link (rules R150, R151) -/

theorem exec_lnkLoad_of_enabled {s : State} {b : Byte} (hthr : s.thr = some b) (htsr : s.tsr = none) :
    exec .lnkLoad s = .next { s with tsr := some b, thr := none } := by
  rw [← hthr]
  exact whenEnabled_of_clause (loadEnabled_iff s) ⟨by simp [hthr], htsr⟩ ..

theorem exec_lnkXfer_of_byte {s : State} {b : Byte} (htsr : s.tsr = some b) :
    exec .lnkXfer s = .next { arrive b s with tsr := none } := by
  simp only [exec, execLnkXfer, htsr]

theorem exec_lnkXfer_of_empty {s : State} (htsr : s.tsr = none) : exec .lnkXfer s = .next s := by
  simp only [exec, execLnkXfer, htsr, hold]

theorem arrive_of_room {s : State} (h : s.rxq.length < s.cfg.rxDepth) (b : Byte) :
    arrive b s = { s with rxq := s.rxq ++ [b] } := if_pos h

theorem arrive_of_full {s : State} (h : s.cfg.rxDepth ≤ s.rxq.length) (b : Byte) :
    arrive b s = { s with ovr := true } := if_neg (Nat.not_lt.2 h)

/-- Settles O26: the transfer of a byte is its arrival at a queue with room or at a full one. -/
theorem linkSteps : Obligations.LinkSteps := by
  refine ⟨fun _ _ => exec_lnkLoad_of_enabled, fun s => (whenEnabled_of_not_clause (loadEnabled_iff s) · ..),
    fun s b htsr hroom => ?_, fun s b htsr hfull => ?_, fun _ => exec_lnkXfer_of_empty⟩
  · rw [exec_lnkXfer_of_byte htsr, arrive_of_room hroom]
  · rw [exec_lnkXfer_of_byte htsr, arrive_of_full hfull]

/-! ## The Receiver (rules R154 to R157) -/

theorem exec_rcvPoll_of_rpoll {s : State} (hph : s.snkPh = .rpoll) : exec .rcvPoll s = .next
    (if s.dr && decide (s.rxcnt.toNat < 32) then { s with rr := true, rb := 0, snkPh := .rrd0 } else s.endInvocation) :=
  whenEnabled_of_clause (pollEnabled_iff s) hph ..

/-- Settles O27: a poll accepts where its two conditions hold, and else ends the invocation. -/
theorem pollAndReadyOffSteps : Obligations.PollAndReadyOffSteps := by
  refine ⟨rfl, fun s hph hdr hcnt => ?_, fun s hph hdecline => ?_,
    fun s => (whenEnabled_of_not_clause (pollEnabled_iff s) · ..), rfl,
    fun s hph => whenEnabled_of_clause (rdyoffEnabled_iff s) hph ..,
    fun s => (whenEnabled_of_not_clause (rdyoffEnabled_iff s) · ..)⟩
  · rw [exec_rcvPoll_of_rpoll hph, if_pos (by simp [hdr, hcnt])]
  · rw [exec_rcvPoll_of_rpoll hph, if_neg (by simpa using hdecline), State.endInvocation]

theorem exec_rcvRd0_of_cons {s : State} {b : Byte} {rest : List Byte} (hph : s.snkPh = .rrd0) (hq : s.rxq = b :: rest)
    (hcnt : s.rxcnt.toNat < 32) : exec .rcvRd0 s = .next { byteTaken b rest s with rb := 1, snkPh := .rrdyoff } := by
  rw [exec, execRcvRd0, takeByte_of_cons hq hcnt]
  exact whenEnabled_of_clause (rd0Enabled_iff s) ⟨hph, by simp [hq]⟩ ..

theorem exec_rcvRdn_of_cons {s : State} {b : Byte} {rest : List Byte} (hph : s.snkPh = .rrdn) (hq : s.rxq = b :: rest)
    (hcnt : s.rxcnt.toNat < 32) : exec .rcvRdn s = .next
      (if s.rb + 1 = 4 then { byteTaken b rest s with rb := 0, snkPh := .idle }
        else { byteTaken b rest s with rb := s.rb + 1 }) := by
  rw [exec, execRcvRdn, takeByte_of_cons hq hcnt]
  exact whenEnabled_of_clause (rdnEnabled_iff s) ⟨hph, by simp [hq]⟩ ..

/-- `RXBINS` after a byte is taken: the byte at `RXCNT`, every other bin as before. -/
theorem read_byteTaken {s : State} (hmem : MemoriesOk s) (b : Byte) (rest : List Byte) (k : Nat) :
    (byteTaken b rest s).rxbins.read k = if k = s.rxcnt.toNat then b else s.rxbins.read k := by
  obtain ⟨-, -, -, ⟨hrx, -⟩, -⟩ := hmem
  exact Memory.read_write hrx _ k _

/-- The fourth byte of a chunk, by the counter's number: `RB` has room for it. -/
theorem rb_add_one_eq_four_iff (rb : BitVec 3) : rb + 1 = 4 ↔ rb.toNat + 1 = 4 := by
  constructor <;> intro h <;> bv_omega

/-- Settles O28: both reads are `byteTaken` with the phase's own end; the further byte by whether it is the fourth. -/
theorem readByteSteps : Obligations.ReadByteSteps := by
  refine ⟨rfl, fun s b rest hmem hph hq hcnt => ?_, fun s => (whenEnabled_of_not_clause (rd0Enabled_iff s) · ..), rfl,
    fun s b rest hmem hph hq hcnt => ?_, fun s => (whenEnabled_of_not_clause (rdnEnabled_iff s) · ..)⟩
  · exact ⟨_, exec_rcvRd0_of_cons hph hq hcnt, read_byteTaken hmem b rest, rfl⟩
  · refine ⟨_, exec_rcvRdn_of_cons hph hq hcnt, ?_⟩
    by_cases hlast : s.rb + 1 = 4
    · rw [if_pos hlast]
      exact ⟨read_byteTaken hmem b rest, fun _ => rfl, fun hne => absurd ((rb_add_one_eq_four_iff _).1 hlast) hne⟩
    · rw [if_neg hlast]
      exact ⟨read_byteTaken hmem b rest, fun he => absurd ((rb_add_one_eq_four_iff _).2 he) hlast, fun _ => rfl⟩

end Sys2Proof.Machine
end

section
/-! PROOFS. STR.SETFR sets `FRQ` and no micro-operation reads it (statement FrequencyRangeOnlyCrossesTheLink). A change
of the state commutes with an operation when doing it before or after the operation gives the same answer. The shared
operations keep this, and the change of `FRQ` commutes with each of the fifteen micro-operations. -/

namespace Sys2Proof.Machine

/-! ## Changes of the state that commute with an operation -/

/-- The change `f` of the state before the operation `m` has the same answer as after it. -/
def CommutesWith (f : State → State) (m : State → Result) : Prop :=
  ∀ s, m (f s) = andThen (m s) fun t => .next (f t)

theorem CommutesWith.eq_next {f : State → State} {m : State → Result} (h : CommutesWith f m) {s t : State}
    (ht : m s = .next t) : m (f s) = .next (f t) := by
  rw [h s, ht, andThen_next]

theorem commutesWith_next {f g : State → State} (h : Function.Commute g f) : CommutesWith f fun s => .next (g s) :=
  fun s => congrArg Host.Outcome.next (h s)

/-- A micro-operation whose enabling clause does not see the change. -/
theorem commutesWith_whenEnabled {f : State → State} {enabled : State → Bool} {go : State → Result}
    (henabled : ∀ s, enabled (f s) = enabled s) (hgo : CommutesWith f go) :
    CommutesWith f fun s => whenEnabled (enabled s) s (go s) := fun s => by
  simp only [henabled]
  cases enabled s with
  | true => exact hgo s
  | false => rfl

/-- An access to cells whose existence does not depend on the change. -/
theorem commutesWith_requireCells {f : State → State} {cells : State → List (Space × Nat)} {go : State → Result}
    (hcfg : ∀ s, (f s).cfg = s.cfg) (hcells : ∀ s, cells (f s) = cells s) (hgo : CommutesWith f go) :
    CommutesWith f fun s => requireCells s.cfg (cells s) (go s) := fun s => by
  simp only [hcfg, hcells]
  induction cells s with
  | nil => exact hgo s
  | cons p rest ih =>
    obtain ⟨sp, i⟩ := p
    simp only [requireCells]
    split
    · exact ih
    · rfl

/-! ## The change of `FRQ` (rule R34) -/

/-- `FRQ` driven to a level. -/
def setFrq (b : Bool) (s : State) : State := { s with frq := b }

theorem setFrq_commute_swapAdvance (b : Bool) : Function.Commute swapAdvance (setFrq b) := fun s => by
  simp only [swapAdvance, apply_ite (setFrq b)]
  rfl

theorem setFrq_commute_bflyAdvance (b : Bool) : Function.Commute bflyAdvance (setFrq b) := fun s => by
  simp only [bflyAdvance, apply_ite (setFrq b)]
  rfl

theorem setFrq_commute_pushAdvance (b : Bool) : Function.Commute pushAdvance (setFrq b) := fun s => by
  simp only [pushAdvance, apply_ite (setFrq b)]
  rfl

theorem setFrq_commute_emitAdvance (b : Bool) : Function.Commute emitAdvance (setFrq b) := fun s => by
  simp only [emitAdvance, apply_ite (setFrq b)]
  rfl

theorem setFrq_commute_arrive (b : Bool) (x : Byte) : Function.Commute (arrive x) (setFrq b) := fun s => by
  simp only [arrive, apply_ite (setFrq b)]
  rfl

theorem takeByte_of_empty {s : State} (hq : s.rxq = []) (go : State → Result) : takeByte s go = .next s := by
  simp only [takeByte, hq, hold]

theorem takeByte_of_queued {s : State} {x : Byte} {rest : List Byte} (hq : s.rxq = x :: rest) (go : State → Result) :
    takeByte s go = requireCells s.cfg [(.rxbins, s.rxcnt.toNat)] (go (byteTaken x rest s)) := by
  simp only [takeByte, hq, byteTaken]

/-- Which byte is taken, and where it goes, does not depend on `FRQ`. -/
theorem setFrq_commutesWith_takeByte {b : Bool} {go : State → Result} (hgo : CommutesWith (setFrq b) go) :
    CommutesWith (setFrq b) fun s => takeByte s go := fun s => by
  cases hq : s.rxq with
  | nil => simp only [takeByte_of_empty hq, takeByte_of_empty (s := setFrq b s) hq, andThen_next]
  | cons x rest =>
    have htake : CommutesWith (setFrq b) fun t =>
        requireCells t.cfg [(.rxbins, t.rxcnt.toNat)] (go (byteTaken x rest t)) :=
      commutesWith_requireCells (fun _ => rfl) (fun _ => rfl) fun t => hgo (byteTaken x rest t)
    simp only [takeByte_of_queued hq, takeByte_of_queued (s := setFrq b s) hq]
    exact htake s

/-! ## The micro-operations do not read `FRQ`

The enabling clauses, the cells accessed and the fields written are the same terms before and after the change. -/

theorem setFrq_commutesWith_fftSwap (b : Bool) : CommutesWith (setFrq b) (exec .fftSwap) :=
  commutesWith_whenEnabled (fun _ => rfl)
    (commutesWith_next fun s => setFrq_commute_swapAdvance b { s with fr := swapCells s.regM s.fr })

theorem setFrq_commutesWith_fftBfly (b : Bool) : CommutesWith (setFrq b) (exec .fftBfly) :=
  commutesWith_whenEnabled (fun _ => rfl) <| commutesWith_requireCells (fun _ => rfl) (fun _ => rfl) <|
    commutesWith_next fun s => setFrq_commute_bflyAdvance b (bflyCells s)

theorem setFrq_commutesWith_strPush (b : Bool) : CommutesWith (setFrq b) (exec .strPush) :=
  commutesWith_whenEnabled (fun _ => rfl) <| commutesWith_requireCells (fun _ => rfl) (fun _ => rfl) <|
    commutesWith_next fun s => setFrq_commute_pushAdvance b { s with thr := some (s.txbins.read (pushIndex s)) }

theorem setFrq_commutesWith_lnkXfer (b : Bool) : CommutesWith (setFrq b) (exec .lnkXfer) := fun s => by
  cases htsr : s.tsr with
  | none => rw [exec_lnkXfer_of_empty htsr, exec_lnkXfer_of_empty (s := setFrq b s) htsr, andThen_next]
  | some x =>
    rw [exec_lnkXfer_of_byte htsr, exec_lnkXfer_of_byte (s := setFrq b s) htsr, setFrq_commute_arrive b x s]
    rfl

theorem setFrq_commutesWith_rasEmit (b : Bool) : CommutesWith (setFrq b) (exec .rasEmit) := by
  have hsend : CommutesWith (setFrq b) fun s =>
      requireCells s.cfg [(.fb, emitIndex s)] (.next (emitAdvance (s.shiftOut (s.fb.read (emitIndex s))))) :=
    commutesWith_requireCells (fun _ => rfl) (fun _ => rfl)
      (commutesWith_next fun s => setFrq_commute_emitAdvance b (s.shiftOut (s.fb.read (emitIndex s))))
  refine commutesWith_whenEnabled (fun _ => rfl) fun s => ?_
  by_cases hrow : s.line.toNat < s.cfg.visTop
  · simp [hrow, setFrq]
  · simpa only [hrow, setFrq, if_false] using hsend s

theorem setFrq_commutesWith_rcvPoll (b : Bool) : CommutesWith (setFrq b) (exec .rcvPoll) :=
  commutesWith_whenEnabled (fun _ => rfl) <| commutesWith_next fun s => by
    simp only [apply_ite (setFrq b)]
    rfl

theorem setFrq_commutesWith_rcvRdn (b : Bool) : CommutesWith (setFrq b) (exec .rcvRdn) :=
  commutesWith_whenEnabled (fun _ => rfl) <| setFrq_commutesWith_takeByte <| commutesWith_next fun s => by
    simp only [apply_ite (setFrq b)]
    rfl

/-- The cases written here update fields only; what the others compute commutes by the lemmas above. -/
theorem setFrq_commutesWith_micro (b : Bool) {i : Instr} (hi : isMicro i = true) :
    CommutesWith (setFrq b) (exec i) := by
  cases i with
  | strWaitrr | strFin | lnkLoad | rasSyncon | rasCount | rasSyncoff | rcvRdyoff =>
    exact commutesWith_whenEnabled (fun _ => rfl) (commutesWith_next fun _ => rfl)
  | rcvRd0 =>
    exact commutesWith_whenEnabled (fun _ => rfl) (setFrq_commutesWith_takeByte (commutesWith_next fun _ => rfl))
  | fftSwap => exact setFrq_commutesWith_fftSwap b
  | fftBfly => exact setFrq_commutesWith_fftBfly b
  | strPush => exact setFrq_commutesWith_strPush b
  | rasEmit => exact setFrq_commutesWith_rasEmit b
  | rcvPoll => exact setFrq_commutesWith_rcvPoll b
  | rcvRdn => exact setFrq_commutesWith_rcvRdn b
  | lnkXfer => exact setFrq_commutesWith_lnkXfer b
  | _ => cases hi

/-- Settles O15: the command in every phase, and the change of `FRQ` before a micro-operation as the change after it. -/
theorem frequencyRangeOnlyCrossesTheLink : Obligations.FrequencyRangeOnlyCrossesTheLink :=
  ⟨fun _ => decode_strSetfr_word, exec_strSetfr, fun _ _ _ b hi ht => (setFrq_commutesWith_micro b hi).eq_next ht⟩

end Sys2Proof.Machine
end

section
/-! PROOFS. The sink host commands on the framebuffer, the received bins and the counters (statements FramebufferWrite,
SinkReads and ResetCountReArms): which words name them, what they do outside an invocation, and the order of the two
refusals of a framebuffer command. -/

namespace Sys2Proof

/-! ## Words of the sink unit (rules R90, R99); those of the framebuffer stand with the opcode table's facts -/

theorem decode_snkRdb_word {w : PortWord} (hu : unitField w = 0x3) (ho : opField w = 1) : decode (.word w) =
    if (idxField w).toNat < 32 then
      if dataField w = 0 then .ok (.snkRdb ((idxField w).setWidth 5)) else .error .fieldNotZero
    else .error .indexRange := by
  rw [decode_word_of_unit_snk hu, ho]
  exact need_bin_index ..

theorem decode_snkRstcnt_word {w : PortWord} (hu : unitField w = 0x3) (ho : opField w = 2) :
    decode (.word w) = if w = 0x32000000 then .ok .snkRstcnt else .error .fieldNotZero := by
  rw [decode_word_of_unit_snk hu, ho]
  exact need_no_operands hu ho .snkRstcnt

theorem decode_snkRdline_word {w : PortWord} (hu : unitField w = 0x3) (ho : opField w = 3) :
    decode (.word w) = if w = 0x33000000 then .ok .snkRdline else .error .fieldNotZero := by
  rw [decode_word_of_unit_snk hu, ho]
  exact need_no_operands hu ho .snkRdline

end Sys2Proof

namespace Sys2Proof.Machine

/-! ## The refusals of a sink command (rules R50, R99, R242) -/

theorem unlessSnkBusy_of_idle {s : State} (h : s.snkPh = .idle) (go : Result) : unlessBusy (snkBusy s) s go = go := by
  have hb : snkBusy s = false := by simp [snkBusy_eq_decide, h]
  rw [hb, unlessBusy_of_idle]

theorem unlessSnkBusy_of_busy {s : State} (h : s.snkPh ≠ .idle) (go : Result) :
    unlessBusy (snkBusy s) s go = .next { s with resp := some (responseWord .nakBusy 0) } := by
  have hb : snkBusy s = true := by simp [snkBusy_eq_decide, h]
  rw [hb, unlessBusy_of_busy, State.respond]

theorem withFbAddr_of_lt {s : State} {addr : BitVec 16} (h : addr.toNat < s.cfg.fbSize) (go : Result) :
    withFbAddr addr s go = go := if_pos h

theorem withFbAddr_of_le {s : State} {addr : BitVec 16} (h : s.cfg.fbSize ≤ addr.toNat) (go : Result) :
    withFbAddr addr s go = .next { s with resp := some (responseWord .nakArg 0) } := if_neg (Nat.not_lt.2 h)

/-- Outside an invocation a framebuffer command with an address in range does its work. -/
theorem fbCommand_of_idle {s : State} {addr : BitVec 16} (haddr : addr.toNat < s.cfg.fbSize) (hidle : s.snkPh = .idle)
    (go : Result) : withFbAddr addr s (unlessBusy (snkBusy s) s go) = go :=
  (withFbAddr_of_lt haddr _).trans (unlessSnkBusy_of_idle hidle go)

/-- Inside an invocation a framebuffer command with an address in range is refused. -/
theorem fbCommand_of_busy {s : State} {addr : BitVec 16} (haddr : addr.toNat < s.cfg.fbSize) (hbusy : s.snkPh ≠ .idle)
    (go : Result) : withFbAddr addr s (unlessBusy (snkBusy s) s go) =
      .next { s with resp := some (responseWord .nakBusy 0) } :=
  (withFbAddr_of_lt haddr _).trans (unlessSnkBusy_of_busy hbusy go)

/-! ## The commands outside an invocation (rules R196 to R200) -/

theorem exec_snkWrfb_of_idle {s : State} {addr : BitVec 16} (haddr : addr.toNat < s.cfg.fbSize)
    (hidle : s.snkPh = .idle) (byte : Byte) : exec (.snkWrfb addr byte) s = .next
      { s with fb := s.fb.write addr.toNat byte, resp := some (responseWord .ack 0) } :=
  fbCommand_of_idle haddr hidle _

theorem exec_snkRdfb_of_idle {s : State} {addr : BitVec 16} (haddr : addr.toNat < s.cfg.fbSize)
    (hidle : s.snkPh = .idle) : exec (.snkRdfb addr) s =
      .next { s with resp := some (responseWord .ack (BitVec.ofNat 16 (s.fb.read addr.toNat).toNat)) } := by
  rw [← byteData_eq_ofNat]
  exact fbCommand_of_idle haddr hidle _

theorem exec_snkRdb_of_idle {s : State} (hidle : s.snkPh = .idle) (idx : BitVec 5) : exec (.snkRdb idx) s =
    .next { s with resp := some (responseWord .ack (BitVec.ofNat 16 (s.rxbins.read idx.toNat).toNat)) } := by
  rw [← byteData_eq_ofNat]
  exact unlessSnkBusy_of_idle hidle _

theorem lineData_eq_ofNat (l : BitVec 9) : lineData l = BitVec.ofNat 16 l.toNat := (BitVec.ofNat_toNat 16 l).symm

theorem exec_snkRdline_of_idle {s : State} (hidle : s.snkPh = .idle) :
    exec .snkRdline s = .next { s with resp := some (responseWord .ack (BitVec.ofNat 16 s.line.toNat)) } := by
  rw [← lineData_eq_ofNat]
  exact unlessSnkBusy_of_idle hidle _

theorem full_iff (s : State) : full s = true ↔ s.rxcnt = 32 := beq_iff_eq

theorem exec_snkRstcnt_of_idle {s : State} (hidle : s.snkPh = .idle) :
    exec .snkRstcnt s = if full s then ackWith 0 { s with rxcnt := 0 } else raiseNak .nakState s :=
  unlessSnkBusy_of_idle hidle _

/-- Settles O18: the write, read back in a canonical framebuffer; the address is checked before the phase. -/
theorem framebufferWrite : Obligations.FramebufferWrite := by
  refine ⟨fun _ => decode_snkWrfb_word, fun s addr byte hmem hidle haddr => ?_,
    fun s addr byte hout => withFbAddr_of_le hout _, fun s addr byte hbusy haddr => fbCommand_of_busy haddr hbusy _⟩
  obtain ⟨-, -, -, -, hfb, -⟩ := hmem
  exact ⟨_, exec_snkWrfb_of_idle haddr hidle byte, fun k => Memory.read_write hfb _ k _, rfl⟩

/-- Settles O16: each read's word, its answer outside an invocation and its refusals. -/
theorem sinkReads : Obligations.SinkReads :=
  ⟨fun _ => decode_snkRdb_word, fun _ => decode_snkRdline_word, fun _ => decode_snkRdfb_word,
    fun _ idx hidle => exec_snkRdb_of_idle hidle idx, fun _ => exec_snkRdline_of_idle,
    fun _ _ hidle haddr => exec_snkRdfb_of_idle haddr hidle,
    fun _ _ hbusy => ⟨unlessSnkBusy_of_busy hbusy _, unlessSnkBusy_of_busy hbusy _⟩,
    fun _ _ hbusy haddr => fbCommand_of_busy haddr hbusy _, fun _ _ hout => withFbAddr_of_le hout _⟩

/-- Settles O17: outside an invocation the flag `FULL` decides between the clearing and the refusal. -/
theorem resetCountReArms : Obligations.ResetCountReArms := by
  refine ⟨fun _ => decode_snkRstcnt_word, fun s hidle hfull => ?_, fun s hidle hpart => ?_,
    fun s hbusy => unlessSnkBusy_of_busy hbusy _⟩
  · exact (exec_snkRstcnt_of_idle hidle).trans (if_pos ((full_iff s).2 hfull))
  · exact (exec_snkRstcnt_of_idle hidle).trans (if_neg (mt (full_iff s).1 hpart))

end Sys2Proof.Machine
end

section
/-! PROOFS. The raster micro-operations, one at a time (statements SyncOnStep, CountStep, SyncOffStep and EmitStep): in
its own phase each is the sink sequencer's step, and elsewhere it holds. -/

namespace Sys2Proof.Machine

/-! ## Enabling clauses as propositions (rules R182 to R185) -/

theorem synconEnabled_iff (s : State) : synconEnabled s = true ↔ s.snkPh = .idle ∧ s.tickPend = true := by
  simp [synconEnabled]

theorem countEnabled_iff (s : State) : countEnabled s = true ↔ s.snkPh = .count := by
  simp [countEnabled]

theorem syncoffEnabled_iff (s : State) : syncoffEnabled s = true ↔ s.snkPh = .syncoff := by
  simp [syncoffEnabled]

theorem emitEnabled_iff (s : State) : emitEnabled s = true ↔ s.snkPh = .emit := by
  simp [emitEnabled]

/-! ## The operation of the phase is the sink's step (rule R97) -/

theorem stepAgent_snk_of_phase {s : State} {p : SnkPhase} (hph : s.snkPh = p) {i : Instr}
    (hi : decode (.phase .snkPh (snkPhaseCode p)) = .ok i) : stepAgent .snk s = exec i s := by
  rw [stepAgent_eq_exec, agentCode, hph, hi]

theorem exec_rasSyncon_of_tick {s : State} (hph : s.snkPh = .idle) (htick : s.tickPend = true) :
    exec .rasSyncon s = .next (s.enterInvocation.driveSync s.pol) :=
  (stepAgent_snk_of_phase hph rfl).symm.trans (stepAgent_snk_of_tick hph htick)

theorem exec_rasCount_of_count {s : State} (hph : s.snkPh = .count) :
    exec .rasCount s = .next { s with line := countedLine s, pol := countedPol s, snkPh := .syncoff } :=
  (stepAgent_snk_of_phase hph rfl).symm.trans (stepAgent_snk_of_count hph)

theorem exec_rasSyncoff_of_syncoff {s : State} (hph : s.snkPh = .syncoff) : exec .rasSyncoff s = .next
    { s.driveSync (!s.pol) with
      snkPh := afterSyncoff s, col := if visibleLine s.cfg s.line.toNat then 0 else s.col } :=
  (stepAgent_snk_of_phase hph rfl).symm.trans (stepAgent_snk_of_syncoff hph)

theorem exec_rasEmit_of_emit {s : State} (h : RasterOk s) (hph : s.snkPh = .emit) :
    exec .rasEmit s = .next (emitAdvance (s.shiftOut (s.fb.read (emitIndex s)))) :=
  (stepAgent_snk_of_phase hph rfl).symm.trans (stepAgent_snk_of_emit h hph)

/-! ## RAS.COUNT (rule R183) -/

/-- The polarity by the incremented counter; the two thresholds differ, so their order does not matter. -/
theorem countedPol_eq {s : State} (hc : s.cfg.valid = true) (hlt : s.line.toNat < s.cfg.wrapAt) : countedPol s =
    if s.line.toNat + 1 = s.cfg.vsStart then true else if s.line.toNat + 1 = s.cfg.vsEnd then false else s.pol := by
  obtain ⟨-, -, -, hvs, -, hwrap, -⟩ := config_bounds_of_valid hc
  rw [countedPol, bumpedLine_eq (by omega)]
  split_ifs
  · omega
  all_goals rfl

/-- Settles O30: the counter and the polarity after the step, each by the incremented value. -/
theorem countStep : Obligations.CountStep := by
  refine ⟨rfl, fun s hc hlt hph => ?_, fun s => (whenEnabled_of_not_clause (countEnabled_iff s) · ..)⟩
  exact ⟨_, exec_rasCount_of_count hph, countedLine_toNat hc hlt, countedPol_eq hc hlt, rfl⟩

/-! ## RAS.EMIT (rule R185) -/

/-- The byte that ends the row. -/
theorem emitAdvance_of_last {s : State} (h : s.col.toNat + 1 = s.cfg.bpr) :
    emitAdvance s = { s with col := 0, snkPh := .idle } := if_pos (by omega)

/-- A byte within the row. -/
theorem emitAdvance_of_more {s : State} (hcol : s.col.toNat < s.cfg.bpr) (h : s.col.toNat + 1 ≠ s.cfg.bpr) :
    emitAdvance s = { s with col := s.col + 1 } := if_neg (by omega)

/-- Settles O32: the invariant puts line and column in the visible window; the column decides whether the row ends. -/
theorem emitStep : Obligations.EmitStep := by
  refine ⟨rfl, fun s h hph => ?_, fun s => (whenEnabled_of_not_clause (emitEnabled_iff s) · ..)⟩
  obtain ⟨hvis, hcol⟩ := h.raster.at_emit hph
  obtain ⟨htop, hbot⟩ := (visibleLine_iff ..).1 hvis
  refine ⟨htop, emitIndex_lt htop hbot hcol, fun hlast => ?_, fun hmore => ?_⟩
  · rw [exec_rasEmit_of_emit h.raster hph, emitAdvance_of_last (s := s.shiftOut _) hlast]
    rfl
  · rw [exec_rasEmit_of_emit h.raster hph, emitAdvance_of_more (s := s.shiftOut _) hcol hmore]
    rfl

/-! ## RAS.SYNCON and RAS.SYNCOFF (rules R182, R184) -/

/-- Settles O29: the entry of the invocation with the polarity the previous line left. -/
theorem syncOnStep : Obligations.SyncOnStep :=
  ⟨rfl, fun _ hph htick => exec_rasSyncon_of_tick hph htick,
    fun s => (whenEnabled_of_not_clause (synconEnabled_iff s) · ..)⟩

/-- The trailing edge on a visible line: the row begins at column 0. -/
theorem exec_rasSyncoff_of_visible {s : State} (hph : s.snkPh = .syncoff)
    (hvis : s.cfg.visTop ≤ s.line.toNat ∧ s.line.toNat < s.cfg.visBot) : exec .rasSyncoff s = .next
      { s with sync := !s.pol, out := s.out ++ [.sync (!s.pol)], col := 0, snkPh := .emit } := by
  have hvis' : visibleLine s.cfg s.line.toNat = true := (visibleLine_iff ..).2 hvis
  rw [exec_rasSyncoff_of_syncoff hph, afterSyncoff, if_pos hvis', if_pos hvis']
  rfl

/-- The trailing edge on any other line: the column stays, and the line's kind decides about the Receiver. -/
theorem exec_rasSyncoff_of_not_visible {s : State} (hph : s.snkPh = .syncoff)
    (hvis : ¬(s.cfg.visTop ≤ s.line.toNat ∧ s.line.toNat < s.cfg.visBot)) : exec .rasSyncoff s = .next
      { s with
        sync := !s.pol, out := s.out ++ [.sync (!s.pol)]
        snkPh := if s.pol = true ∧ s.cfg.rxInVsync = false then .idle else .rpoll } := by
  have hvis' : ¬visibleLine s.cfg s.line.toNat = true := mt (visibleLine_iff ..).1 hvis
  rw [exec_rasSyncoff_of_syncoff hph, afterSyncoff, if_neg hvis', if_neg hvis']
  simp [State.driveSync]

/-- Settles O31: visible lines, then the other lines by the polarity and `RX_IN_VSYNC`. -/
theorem syncOffStep : Obligations.SyncOffStep := by
  refine ⟨rfl, fun s hph htop hbot => exec_rasSyncoff_of_visible hph ⟨htop, hbot⟩, fun s hph hvis hpol hrx => ?_,
    fun s hph hvis hreceive => ?_, fun s => (whenEnabled_of_not_clause (syncoffEnabled_iff s) · ..)⟩
  · rw [exec_rasSyncoff_of_not_visible hph hvis, if_pos ⟨hpol, hrx⟩]
  · rw [exec_rasSyncoff_of_not_visible hph hvis, if_neg hreceive]

end Sys2Proof.Machine
end

section
/-! PROOFS. The reset state (statement ResetTable): what its derived flags say for every parameter set, what its
line counter holds with the default parameters, and the four readings the units give in it. -/

namespace Sys2Proof.Machine

/-! ## The derived flags at reset (rules R37, R40, R271) -/

/-- Both registers of the transmitter and the receiver's queue are empty. -/
theorem txe_txc_rxc_resetWith (c : Config) : txe (State.resetWith c) = true ∧ txc (State.resetWith c) = true ∧
    rxc (State.resetWith c) = false := ⟨rfl, rfl, rfl⟩

/-! ## The line counter at reset (rules R271, R198) -/

/-- The counter stands on the last line before the wrap, so the first invocation counts to the first line. -/
theorem line_reset : State.reset.line = 262 := rfl

theorem exec_snkRdline_reset : exec .snkRdline State.reset = .next { State.reset with resp := some 0x00000106 } := by
  rw [exec_snkRdline_of_idle rfl, line_reset]
  rfl

/-! ## The table -/

/-- Settles O42: one part of the table per unit. An empty memory reads 0, the flags follow from the empty registers, and
each other item is the value the reset state is defined with; the three status words are those of StatusWords. -/
theorem resetTable : Obligations.ResetTable := by
  obtain ⟨htxe, htxc, hrxc⟩ := txe_txc_rxc_resetWith Config.default
  obtain ⟨-, -, -, -, -, -, -, hfftStat, hstrStat, hsnkStat⟩ := statusWords
  refine ⟨?fft, ?streamer, ?link, ?sink, hfftStat, hstrStat, hsnkStat, exec_snkRdline_reset⟩
  case fft => exact ⟨Memory.read_nil, Memory.read_nil, rfl, rfl, rfl, rfl, rfl, rfl⟩
  case streamer => exact ⟨Memory.read_nil, rfl, rfl, rfl, rfl, rfl⟩
  case link => exact ⟨rfl, rfl, rfl, rfl, htxe, htxc, hrxc⟩
  case sink =>
    exact ⟨line_reset, rfl, rfl, rfl, Memory.read_nil, Memory.read_nil, rfl, rfl, rfl, rfl, rfl, rfl, rfl⟩

end Sys2Proof.Machine
end

section
/-! PROOFS. Decoding and encoding are inverse to each other (statements DecodeInvertsEncode, AcceptedCodesEncodeBack,
WordsDecodeExactlyWhenInTable, EncodedWordsAreTheTables and SpecWordsDecode). A unit's decoder is followed operation by
operation; what the operand checks let pass is what widening an operand gives. -/

namespace Sys2Proof

/-! ## Words assembled from fields -/

/-- A word is the four fields of format B put together (rule R85). -/
theorem formatB_fields (w : PortWord) : formatB (unitField w) (opField w) (addrField w) (byteField w) = w := by
  apply BitVec.eq_of_getLsbD_eq
  intro k hk
  rw [getLsbD_formatB]
  simp only [unitField, opField, addrField, byteField, BitVec.getLsbD_extractLsb']
  split_ifs
  all_goals grind

theorem formatA_eq_ofNat (u o : BitVec 4) (i : BitVec 8) (d : Word) : formatA u o i d =
    BitVec.ofNat 32 (u.toNat * 0x10000000 + o.toNat * 0x1000000 + i.toNat * 0x10000 + d.toNat) := by
  apply BitVec.eq_of_toNat_eq
  rw [formatA, toNat_append_eq_add, toNat_append_eq_add, toNat_append_eq_add, BitVec.toNat_ofNat]
  omega

theorem formatB_eq_ofNat (u o : BitVec 4) (a : BitVec 16) (b : Byte) : formatB u o a b =
    BitVec.ofNat 32 (u.toNat * 0x10000000 + o.toNat * 0x1000000 + a.toNat * 0x100 + b.toNat) := by
  apply BitVec.eq_of_toNat_eq
  rw [formatB, toNat_append_eq_add, toNat_append_eq_add, toNat_append_eq_add, BitVec.toNat_ofNat]
  omega

/-! ## An operand widened to its field and cut back -/

theorem setWidth_setWidth_of_lt {m n : Nat} (x : BitVec n) (h : x.toNat < 2 ^ m) : (x.setWidth m).setWidth n = x := by
  apply BitVec.eq_of_toNat_eq
  rw [BitVec.toNat_setWidth, BitVec.toNat_setWidth, Nat.mod_eq_of_lt h, Nat.mod_eq_of_lt x.isLt]

theorem agentOfNumber_agentNumber (a : Agent) : agentOfNumber (agentNumber a) = some a := by
  cases a <;> rfl

theorem agentNumber_of_agentOfNumber {n : BitVec 8} {a : Agent} (h : agentOfNumber n = some a) : agentNumber a = n := by
  unfold agentOfNumber at h
  split at h <;> cases h
  all_goals exact BitVec.eq_of_toNat_eq (by simp only [*]; rfl)

theorem decodeAgent_agentNumber (a : Agent) (make : Agent → Instr) :
    decodeAgent (agentNumber a) 0 make = .ok (make a) := by
  rw [decodeAgent, agentOfNumber_agentNumber]
  rfl

/-! ## Decoding an encoded operation -/

theorem decode_formatA_fft (op : BitVec 4) (idx : BitVec 8) (data : Word) :
    decode (.word (formatA 0x1 op idx data)) = decodeFft op.toNat idx data := by
  simp [decode_word_of_unit_fft]

theorem decode_formatA_str (op : BitVec 4) (idx : BitVec 8) (data : Word) :
    decode (.word (formatA 0x2 op idx data)) = decodeStr op.toNat idx data := by
  simp [decode_word_of_unit_str]

theorem decode_formatA_evt (op : BitVec 4) (idx : BitVec 8) (data : Word) :
    decode (.word (formatA 0xE op idx data)) = decodeEvt op.toNat idx data := by
  simp [decode_word_of_unit_evt]

theorem decode_encode (i : Instr) : decode (encode i) = .ok i := by
  have hcell (idx : BitVec 7) : idx.toNat % 256 < 128 := by omega
  have hbin (idx : BitVec 5) : idx.toNat % 256 < 32 := by omega
  have hbyte (b : Byte) : b.toNat % 65536 ≤ 255 := by omega
  have hbit (b : Bool) : b.toNat % 65536 ≤ 1 := by cases b <;> decide
  cases i with
  | fftLds idx data =>
    rw [encode, decode_formatA_fft]
    simp [decodeFft, need, hcell]
  | fftRdr idx | fftRdi idx | fftRds idx =>
    rw [encode, decode_formatA_fft]
    simp [decodeFft, need, hcell]
  | strWrb idx byte =>
    rw [encode, decode_formatA_str]
    simp [decodeStr, need, hbin, hbyte]
  | strSetfr bit =>
    rw [encode, decode_formatA_str]
    simp [decodeStr, need, hbit]
  | strRdb idx =>
    rw [encode, decode_formatA_str]
    simp [decodeStr, need, hbin]
  | snkRdb idx =>
    rw [encode, decode_word_of_unit_snk (unitField_formatA ..)]
    simp [decodeSnk, need, hbin]
  | snkWrfb addr byte =>
    rw [encode, decode_word_of_unit_snk (unitField_formatB ..)]
    simp [decodeSnk]
  | snkRdfb addr =>
    rw [encode, decode_word_of_unit_snk (unitField_formatB ..)]
    simp [decodeSnk, need]
  | evtStep a | evtRun a =>
    rw [encode, decode_formatA_evt]
    exact decodeAgent_agentNumber a _
  | fftStat | fftStart | strStat | strSend | snkStat | snkRstcnt | snkRdline | evtLine | evtSettle => rfl
  | fftSwap | fftBfly | strWaitrr | strPush | strFin | rasSyncon | rasCount | rasSyncoff | rasEmit | rcvPoll | rcvRd0
  | rcvRdyoff | rcvRdn | lnkLoad | lnkXfer => rfl

/-- Settles O1: operation by operation, a widened operand passes its check and is cut back to itself. -/
theorem decodeInvertsEncode : Obligations.DecodeInvertsEncode := decode_encode

/-! ## Encoding a decoded operation -/

/-- An operation's code is the port word. -/
def EncodesTo (w : PortWord) (i : Instr) : Prop := encode i = .word w

theorem decodeFft_encodesTo (op : BitVec 4) (idx : BitVec 8) (data : Word) :
    AcceptsOnly (EncodesTo (formatA 0x1 op idx data)) (decodeFft op.toNat idx data) := by
  have hcell (h : idx.toNat < 128) : (idx.setWidth 7).setWidth 8 = idx := setWidth_setWidth_of_lt idx h
  induction op using forall_op with | h n =>
  fin_cases n <;> simp +contextual [decodeFft, EncodesTo, encode, hcell]

theorem decodeStr_encodesTo (op : BitVec 4) (idx : BitVec 8) (data : Word) :
    AcceptsOnly (EncodesTo (formatA 0x2 op idx data)) (decodeStr op.toNat idx data) := by
  have hbin (h : idx.toNat < 32) : (idx.setWidth 5).setWidth 8 = idx := setWidth_setWidth_of_lt idx h
  have hbyte (h : data.toNat ≤ 255) : (data.setWidth 8).setWidth 16 = data :=
    setWidth_setWidth_of_lt data (Nat.lt_succ_of_le h)
  have hbit (h : data.toNat ≤ 1) : (BitVec.ofBool data[0]).setWidth 16 = data := by
    obtain h0 | h1 : data = 0 ∨ data = 1 := by bv_omega
    · rw [h0]; rfl
    · rw [h1]; rfl
  induction op using forall_op with | h n =>
  fin_cases n <;> simp +contextual [decodeStr, EncodesTo, encode, hbin, hbyte, hbit]

theorem decodeSnk_encodesTo {w : PortWord} (hu : unitField w = 0x3) :
    AcceptsOnly (EncodesTo w)
      (decodeSnk (opField w).toNat (idxField w) (dataField w) (addrField w) (byteField w)) := by
  have hbin (h : (idxField w).toNat < 32) : ((idxField w).setWidth 5).setWidth 8 = idxField w :=
    setWidth_setWidth_of_lt _ h
  have hA (idx : BitVec 8) (data : Word) (hi : idxField w = idx) (hd : dataField w = data) :
      formatA 0x3 (opField w) idx data = w := by rw [← hi, ← hd, ← hu, formatA_fields]
  have hB (byte : Byte) (hb : byteField w = byte) : formatB 0x3 (opField w) (addrField w) byte = w := by
    rw [← hb, ← hu, formatB_fields]
  generalize opField w = op at hA hB ⊢
  induction op using forall_op with | h n =>
  fin_cases n <;> simp +contextual [decodeSnk, EncodesTo, encode, hbin]
  -- left are operations 0 to 5, in the table's order: STAT, RDB, RSTCNT, RDLINE, WRFB and RDFB
  · exact hA 0 0
  · exact fun _ => hA _ 0 rfl
  · exact hA 0 0
  · exact hA 0 0
  · exact hB _ rfl
  · exact hB 0

theorem decodeAgent_encodesTo {op : BitVec 4} {make : Agent → Instr}
    (hmake : ∀ a, encode (make a) = .word (formatA 0xE op (agentNumber a) 0)) (idx : BitVec 8) (data : Word) :
    AcceptsOnly (EncodesTo (formatA 0xE op idx data)) (decodeAgent idx data make) := by
  unfold decodeAgent
  split
  · rename_i a ha
    simp +contextual [EncodesTo, hmake, agentNumber_of_agentOfNumber ha]
  · exact acceptsOnly_error

theorem decodeEvt_encodesTo (op : BitVec 4) (idx : BitVec 8) (data : Word) :
    AcceptsOnly (EncodesTo (formatA 0xE op idx data)) (decodeEvt op.toNat idx data) := by
  have hstep := decodeAgent_encodesTo (make := .evtStep) (fun _ => rfl) idx data
  have hrun := decodeAgent_encodesTo (make := .evtRun) (fun _ => rfl) idx data
  by_cases h2 : op = 2
  · subst h2
    exact hstep
  by_cases h3 : op = 3
  · subst h3
    exact hrun
  induction op using forall_op with | h n =>
  fin_cases n <;> simp +contextual [decodeEvt, EncodesTo, encode] at h2 h3 ⊢

theorem encode_of_decode_word {w : PortWord} {i : Instr} (h : decode (.word w) = .ok i) : encode i = .word w := by
  have hw := formatA_fields w
  by_cases h1 : unitField w = 0x1
  · rw [decode_word_of_unit_fft h1] at h
    exact (decodeFft_encodesTo _ _ _ i h).trans (by rw [← h1, hw])
  by_cases h2 : unitField w = 0x2
  · rw [decode_word_of_unit_str h2] at h
    exact (decodeStr_encodesTo _ _ _ i h).trans (by rw [← h2, hw])
  by_cases h3 : unitField w = 0x3
  · rw [decode_word_of_unit_snk h3] at h
    exact decodeSnk_encodesTo h3 i h
  by_cases hE : unitField w = 0xE
  · rw [decode_word_of_unit_evt hE] at h
    exact (decodeEvt_encodesTo _ _ _ i h).trans (by rw [← hE, hw])
  · rw [decode_word_of_reserved_unit h1 h2 h3 hE] at h
    cases h

/-- The one value of a selecting register that is not its operation's code: both link registers full (rule R101). -/
theorem encode_of_decode_phase {reg : PhaseReg} {code : Byte} {i : Instr} (h : decode (.phase reg code) = .ok i) :
    encode i = .phase reg code ∨ (i = .lnkXfer ∧ reg = .link ∧ code = 3) := by
  have hcode (n : Nat) (hn : code.toNat = n) : BitVec.ofNat 8 n = code := by
    rw [← hn, BitVec.ofNat_toNat, BitVec.setWidth_eq]
  simp only [decode, decodePhase] at h
  split at h <;> cases h
  case h_16 hn => exact .inr ⟨rfl, rfl, (hcode 3 hn).symm⟩
  all_goals exact .inl (congrArg (Code.phase _) (hcode _ (by assumption)))

/-- Settles O2: a word by its unit and operation, a selecting value by the table of the registers. -/
theorem acceptedCodesEncodeBack : Obligations.AcceptedCodesEncodeBack := by
  intro c i h
  cases c with
  | word w => exact .inl (encode_of_decode_word h)
  | phase reg code =>
    rcases encode_of_decode_phase h with hi | ⟨rfl, rfl, rfl⟩
    · exact .inl hi
    · exact .inr ⟨rfl, rfl⟩

/-- Settles O3: the decoder of each unit accepts the fields of its rows. -/
theorem wordsDecodeExactlyWhenInTable : Obligations.WordsDecodeExactlyWhenInTable := decode_word_accepts_iff

/-! ## The words as numbers (rules R88 to R94) -/

/-- Settles O4: a word of format A or B is the sum of its fields at their places. -/
theorem encodedWordsAreTheTables : Obligations.EncodedWordsAreTheTables := by
  have hcell (idx : BitVec 7) : (idx.setWidth 8).toNat = idx.toNat := BitVec.toNat_setWidth_of_le (by decide)
  have hbin (idx : BitVec 5) : (idx.setWidth 8).toNat = idx.toNat := BitVec.toNat_setWidth_of_le (by decide)
  have hbyte (b : Byte) : (b.setWidth 16).toNat = b.toNat := BitVec.toNat_setWidth_of_le (by decide)
  have hbit (b : Bool) : ((BitVec.ofBool b).setWidth 16).toNat = b.toNat := by cases b <;> rfl
  refine ⟨rfl, fun idx data => ?_, rfl, fun idx => ?_, fun idx => ?_, fun idx => ?_, rfl, fun idx byte => ?_, rfl,
    fun b => ?_, fun idx => ?_, rfl, fun idx => ?_, rfl, rfl, fun addr byte => ?_, fun addr => ?_, rfl, fun a => ?_,
    fun a => ?_, rfl⟩
  all_goals simp [encode, formatA_eq_ofNat, formatB_eq_ofNat, hcell, hbin, hbyte, hbit]

/-- Settles O5: eleven codes, each evaluated. -/
theorem specWordsDecode : Obligations.SpecWordsDecode :=
  ⟨rfl, rfl, rfl, rfl, rfl, rfl, rfl, rfl, rfl, rfl, rfl⟩

end Sys2Proof
end

section
/-! PROOFS. What a step can do (used by the statements on every step and on runs): the moves of the agents and the
effects of the accepted commands, each named once with its condition. Up to the schedule and the response word a step is
a sequence of moves, or one accepted command, or nothing; a step of a single turn is at most one move. -/

namespace Sys2Proof.Machine

/-! ## Moves: the enabled micro-operations (rules R126, R127, R147 to R151, R154 to R157, R182 to R185) -/

/-- A micro-operation that an agent takes, by the case of its rule. -/
inductive Move : Agent → State → State → Prop where
  | swap {s} (hph : s.fftPh = .reorder) : Move .fft s (swapAdvance { s with fr := swapCells s.regM s.fr })
  | bfly {s} (hph : s.fftPh = .bfly) : Move .fft s (bflyAdvance (bflyCells s))
  | waitrr {s} (hph : s.strPh = .waitrr) (hrr : s.rr = true) : Move .str s { s with strPh := .push }
  | push {s} (hph : s.strPh = .push) (hthr : s.thr = none) (hBy : s.regBy ≠ 3) :
      Move .str s { s with thr := some (s.txbins.read (pushIndex s)), regBy := s.regBy + 1 }
  | pushChunk {s} (hph : s.strPh = .push) (hthr : s.thr = none) (hBy : s.regBy = 3) (hCh : s.regCh + 1 ≠ 8) :
      Move .str s
        { s with thr := some (s.txbins.read (pushIndex s)), regBy := 0, regCh := s.regCh + 1, strPh := .waitrr }
  | pushFrame {s} (hph : s.strPh = .push) (hthr : s.thr = none) (hBy : s.regBy = 3) (hCh : s.regCh + 1 = 8) :
      Move .str s
        { s with thr := some (s.txbins.read (pushIndex s)), regBy := 0, regCh := s.regCh + 1, strPh := .waittxc }
  | fin {s} (hph : s.strPh = .waittxc) (hthr : s.thr = none) (htsr : s.tsr = none) :
      Move .str s { s with dr := false, strPh := .idle }
  | load {s b} (hthr : s.thr = some b) (htsr : s.tsr = none) : Move .lnk s { s with tsr := some b, thr := none }
  | xfer {s b} (htsr : s.tsr = some b) (hroom : s.rxq.length < s.cfg.rxDepth) :
      Move .lnk s { s with rxq := s.rxq ++ [b], tsr := none }
  | lose {s b} (htsr : s.tsr = some b) (hfull : s.cfg.rxDepth ≤ s.rxq.length) :
      Move .lnk s { s with ovr := true, tsr := none }
  | syncon {s} (hph : s.snkPh = .idle) (htick : s.tickPend = true) : Move .snk s (s.enterInvocation.driveSync s.pol)
  | count {s} (hph : s.snkPh = .count) :
      Move .snk s { s with line := countedLine s, pol := countedPol s, snkPh := .syncoff }
  | syncoff {s} (hph : s.snkPh = .syncoff) :
      Move .snk s
        { s.driveSync (!s.pol) with
          snkPh := afterSyncoff s, col := if visibleLine s.cfg s.line.toNat then 0 else s.col }
  | emit {s} (hph : s.snkPh = .emit) (hcol : s.col.toNat ≠ s.cfg.bpr - 1) :
      Move .snk s { s.shiftOut (s.fb.read (emitIndex s)) with col := s.col + 1 }
  | emitLast {s} (hph : s.snkPh = .emit) (hcol : s.col.toNat = s.cfg.bpr - 1) :
      Move .snk s { s.shiftOut (s.fb.read (emitIndex s)) with col := 0, snkPh := .idle }
  | accept {s} (hph : s.snkPh = .rpoll) (hdr : s.dr = true) (hcnt : s.rxcnt.toNat < 32) :
      Move .snk s { s with rr := true, rb := 0, snkPh := .rrd0 }
  | decline {s} (hph : s.snkPh = .rpoll) (hno : ¬(s.dr = true ∧ s.rxcnt.toNat < 32)) :
      Move .snk s { s with snkPh := .idle }
  | rd0 {s b rest} (hph : s.snkPh = .rrd0) (hq : s.rxq = b :: rest) :
      Move .snk s { byteTaken b rest s with rb := 1, snkPh := .rrdyoff }
  | rdyoff {s} (hph : s.snkPh = .rrdyoff) : Move .snk s { s with rr := false, snkPh := .rrdn }
  | rdn {s b rest} (hph : s.snkPh = .rrdn) (hq : s.rxq = b :: rest) (hrb : s.rb + 1 ≠ 4) :
      Move .snk s { byteTaken b rest s with rb := s.rb + 1 }
  | rdnLast {s b rest} (hph : s.snkPh = .rrdn) (hq : s.rxq = b :: rest) (hrb : s.rb + 1 = 4) :
      Move .snk s { byteTaken b rest s with rb := 0, snkPh := .idle }

theorem execStrPush_move {s t : State} (hph : s.strPh = .push) (hthr : s.thr = none) (h : execStrPush s = .next t) :
    Move .str s t := by
  rw [execStrPush, whenEnabled_of_clause (pushEnabled_iff s) ⟨hph, hthr⟩, requireCells_eq_next] at h
  obtain ⟨-, h⟩ := h
  injection h with h
  subst h
  rcases pushAdvance_cases { s with thr := some (s.txbins.read (pushIndex s)) } with
    ⟨hBy, heq⟩ | ⟨hBy, hCh, heq⟩ | ⟨hBy, hCh, heq⟩ <;> rw [heq]
  · exact .push hph hthr hBy
  · exact .pushChunk hph hthr hBy hCh
  · exact .pushFrame hph hthr hBy hCh

theorem execLnkXfer_move {s t : State} {b : Byte} (htsr : s.tsr = some b) (h : execLnkXfer s = .next t) :
    Move .lnk s t := by
  simp only [execLnkXfer, htsr, Host.Outcome.next.injEq] at h
  subst h
  rcases arrive_cases b s with ⟨hroom, heq⟩ | ⟨hfull, heq⟩ <;> rw [heq]
  · exact .xfer htsr hroom
  · exact .lose htsr hfull

theorem stepStr_move {s t : State} (he : agentEnabled .str s = true) (h : stepStr s = .next t) : Move .str s t := by
  rcases (agentEnabled_str s).1 he with ⟨hph, hrr⟩ | ⟨hph, hthr⟩ | ⟨hph, hthr, htsr⟩
  · have heq := (stepAgent_str_of_waitrr hph hrr).symm.trans h
    injection heq with heq
    exact heq ▸ .waitrr hph hrr
  · rw [stepStr, hph] at h
    exact execStrPush_move hph hthr h
  · have heq := (stepAgent_str_of_waittxc hph hthr htsr).symm.trans h
    injection heq with heq
    exact heq ▸ .fin hph hthr htsr

theorem stepLnk_move {s t : State} (he : agentEnabled .lnk s = true) (h : stepLnk s = .next t) : Move .lnk s t := by
  rcases (agentEnabled_lnk s).1 he with htsr | ⟨htsr, hthr⟩
  · obtain ⟨b, hb⟩ := Option.isSome_iff_exists.1 htsr
    rw [stepLnk, if_pos htsr] at h
    exact execLnkXfer_move hb h
  · obtain ⟨b, hb⟩ := Option.isSome_iff_exists.1 hthr
    have heq := (stepAgent_lnk_of_thr htsr hthr).symm.trans h
    injection heq with heq
    rw [← heq, hb]
    exact .load hb htsr

theorem stepSnk_move {s t : State} (he : agentEnabled .snk s = true) (h : stepSnk s = .next t) : Move .snk s t := by
  rw [agentEnabled_snk] at he
  have hbyte (hrxc : rxc s = true) : ∃ b rest, s.rxq = b :: rest := by
    simpa [rxc, List.ne_nil_iff_exists_cons] using hrxc
  have hdet {u : State} (hu : stepAgent .snk s = .next u) (hmove : Move .snk s u) : Move .snk s t := by
    obtain rfl : u = t := by injection hu.symm.trans h
    exact hmove
  cases hph : s.snkPh <;> simp only [hph] at he
  case idle => exact hdet (stepAgent_snk_of_tick hph he) (.syncon hph he)
  case count => exact hdet (stepAgent_snk_of_count hph) (.count hph)
  case syncoff => exact hdet (stepAgent_snk_of_syncoff hph) (.syncoff hph)
  case emit =>
    rw [stepSnk, hph] at h
    simp only [execRasEmit, emitEnabled, hph, whenEnabled] at h
    split at h
    · split at h
      · cases h
      · obtain ⟨-, h⟩ := requireCells_eq_next.1 h
        injection h with h
        rcases emitAdvance_cases (s.shiftOut (s.fb.read (emitIndex s))) with ⟨hcol, heq⟩ | ⟨hcol, heq⟩
        · exact h ▸ heq ▸ .emitLast hph hcol
        · exact h ▸ heq ▸ .emit hph hcol
    · simp at *
  case rpoll =>
    by_cases hacc : s.dr = true ∧ s.rxcnt.toNat < 32
    · refine hdet (stepAgent_snk_of_rpoll hph) ?_
      rw [if_pos (by simpa using hacc)]
      exact .accept hph hacc.1 hacc.2
    · refine hdet (stepAgent_snk_of_rpoll hph) ?_
      rw [if_neg (by simpa using hacc)]
      exact .decline hph hacc
  case rrd0 =>
    obtain ⟨b, rest, hq⟩ := hbyte he
    rw [stepSnk, hph] at h
    change execRcvRd0 s = _ at h
    rw [execRcvRd0, whenEnabled_of_clause (rd0Enabled_iff s) ⟨hph, by simp [hq]⟩, takeByte_eq_next] at h
    rcases h with ⟨hnil, -⟩ | ⟨b', rest', hq', -, h⟩
    · simp [hq] at hnil
    · injection h with h
      exact h ▸ .rd0 hph hq'
  case rrdyoff => exact hdet (stepAgent_snk_of_rrdyoff hph) (.rdyoff hph)
  case rrdn =>
    obtain ⟨b, rest, hq⟩ := hbyte he
    rw [stepSnk, hph] at h
    change execRcvRdn s = _ at h
    rw [execRcvRdn, whenEnabled_of_clause (rdnEnabled_iff s) ⟨hph, by simp [hq]⟩, takeByte_eq_next] at h
    rcases h with ⟨hnil, -⟩ | ⟨b', rest', hq', -, h⟩
    · simp [hq] at hnil
    · injection h with h
      split at h
      · exact h ▸ .rdnLast hph hq' (by assumption)
      · exact h ▸ .rdn hph hq' (by assumption)

theorem stepFft_move {s t : State} (he : agentEnabled .fft s = true) (h : stepFft s = .next t) : Move .fft s t := by
  rcases (agentEnabled_fft s).1 he with hph | hph
  · have heq := (stepAgent_fft_of_reorder hph).symm.trans h
    injection heq with heq
    exact heq ▸ .swap hph
  · rw [stepFft, hph] at h
    change execFftBfly s = _ at h
    rw [execFftBfly, whenEnabled_of_enabled (by simp [bflyEnabled, hph]), requireCells_eq_next] at h
    obtain ⟨-, h⟩ := h
    injection h with h
    exact h ▸ .bfly hph

/-- An agent's step is a move, wherever the agent is enabled. -/
theorem stepAgent_move {a : Agent} {s t : State} (he : agentEnabled a s = true) (h : stepAgent a s = .next t) :
    Move a s t := by
  cases a with
  | fft => exact stepFft_move he h
  | str => exact stepStr_move he h
  | snk => exact stepSnk_move he h
  | lnk => exact stepLnk_move he h

/-- The FFT sequencer leaves the other units alone. -/
theorem Move.fft_frame {s t : State} (h : Move .fft s t) : t =
    { s with
      fr := t.fr, fi := t.fi, fftPh := t.fftPh, fftDone := t.fftDone, regS := t.regS, regM := t.regM
      regI := t.regI } := by
  cases h with
  | swap hph =>
    rcases swapAdvance_cases { s with fr := swapCells s.regM s.fr } with ⟨-, h⟩ | ⟨-, h⟩ <;> rw [h]
  | bfly hph => exact bflyAdvance_bflyCells_frame _

/-! ## The state without its schedule and response word -/

/-- What the rules speak of: the state with the model's own schedule and response word blanked. -/
def State.bare (s : State) : State := { s with turns := [], resp := none }

/-- No move depends on the schedule or the response word. -/
theorem Move.bare {a : Agent} {s t : State} (h : Move a s t) : Move a s.bare t.bare := by
  cases h with
  | swap hph =>
    have heq : (swapAdvance { s with fr := swapCells s.regM s.fr }).bare =
        swapAdvance { s.bare with fr := swapCells s.bare.regM s.bare.fr } := by
      simp only [swapAdvance, apply_ite State.bare]
      rfl
    exact heq ▸ .swap hph
  | bfly hph =>
    have heq : (bflyAdvance (bflyCells s)).bare = bflyAdvance (bflyCells s.bare) := by
      simp only [bflyAdvance, apply_ite State.bare]
      rfl
    exact heq ▸ .bfly hph
  | waitrr hph hrr => exact .waitrr (s := s.bare) hph hrr
  | push hph hthr hBy => exact .push (s := s.bare) hph hthr hBy
  | pushChunk hph hthr hBy hCh => exact .pushChunk (s := s.bare) hph hthr hBy hCh
  | pushFrame hph hthr hBy hCh => exact .pushFrame (s := s.bare) hph hthr hBy hCh
  | fin hph hthr htsr => exact .fin (s := s.bare) hph hthr htsr
  | load hthr htsr => exact .load (s := s.bare) hthr htsr
  | xfer htsr hroom => exact .xfer (s := s.bare) htsr hroom
  | lose htsr hfull => exact .lose (s := s.bare) htsr hfull
  | syncon hph htick => exact .syncon (s := s.bare) hph htick
  | count hph => exact .count (s := s.bare) hph
  | syncoff hph => exact .syncoff (s := s.bare) hph
  | emit hph hcol => exact .emit (s := s.bare) hph hcol
  | emitLast hph hcol => exact .emitLast (s := s.bare) hph hcol
  | accept hph hdr hcnt => exact .accept (s := s.bare) hph hdr hcnt
  | decline hph hno => exact .decline (s := s.bare) hph hno
  | rd0 hph hq => exact .rd0 (s := s.bare) hph hq
  | rdyoff hph => exact .rdyoff (s := s.bare) hph
  | rdn hph hq hrb => exact .rdn (s := s.bare) hph hq hrb
  | rdnLast hph hq hrb => exact .rdnLast (s := s.bare) hph hq hrb

/-- A move is its agent's enabled step. -/
theorem Move.enabled {a : Agent} {s t : State} (h : Move a s t) : agentEnabled a s = true := by
  cases h with
  | swap hph => exact (agentEnabled_fft s).2 (.inl hph)
  | bfly hph => exact (agentEnabled_fft s).2 (.inr hph)
  | waitrr hph hrr => exact (agentEnabled_str s).2 (.inl ⟨hph, hrr⟩)
  | push hph hthr | pushChunk hph hthr | pushFrame hph hthr =>
    exact (agentEnabled_str s).2 (.inr (.inl ⟨hph, hthr⟩))
  | fin hph hthr htsr => exact (agentEnabled_str s).2 (.inr (.inr ⟨hph, hthr, htsr⟩))
  | load hthr htsr => exact (agentEnabled_lnk s).2 (.inr ⟨htsr, by simp [hthr]⟩)
  | xfer htsr | lose htsr => exact (agentEnabled_lnk s).2 (.inl (by simp [htsr]))
  | syncon hph htick => rw [agentEnabled_snk, hph]; exact htick
  | count hph | syncoff hph | emit hph | emitLast hph | accept hph | decline hph | rdyoff hph =>
    rw [agentEnabled_snk, hph]
  | rd0 hph hq | rdn hph hq | rdnLast hph hq =>
    rw [agentEnabled_snk, hph]
    exact rxc_of_cons hq

/-! ## Effects of the accepted commands (rules R121, R122, R142 to R144, R181, R197, R199) -/

/-- What an accepted command does to the state, apart from its answer. -/
inductive Effect : Instr → State → State → Prop where
  | fftLds {s} (hidle : s.fftPh = .idle) (idx : BitVec 7) (data : Word) : Effect (.fftLds idx data) s
      { s with fr := s.fr.write idx.toNat data, fi := s.fi.write idx.toNat 0, fftDone := false }
  | fftStart {s} (hidle : s.fftPh = .idle) : Effect .fftStart s
      { s with fftPh := .reorder, regM := 1, regS := 0, regI := 0, fftDone := false }
  | strWrb {s} (hidle : s.strPh = .idle) (idx : BitVec 5) (byte : Byte) : Effect (.strWrb idx byte) s
      { s with txbins := s.txbins.write idx.toNat byte }
  | strSend {s} (hidle : s.strPh = .idle) : Effect .strSend s
      { s with dr := true, regCh := 0, regBy := 0, strPh := .waitrr }
  | strSetfr {s} (b : Bool) : Effect (.strSetfr b) s { s with frq := b }
  | snkRstcnt {s} (hidle : s.snkPh = .idle) (hfull : s.rxcnt = 32) : Effect .snkRstcnt s { s with rxcnt := 0 }
  | snkWrfb {s} (hidle : s.snkPh = .idle) (addr : BitVec 16) (byte : Byte) (haddr : addr.toNat < s.cfg.fbSize) :
      Effect (.snkWrfb addr byte) s { s with fb := s.fb.write addr.toNat byte }
  | evtLine {s} : Effect .evtLine s { s with miss := s.miss || s.tickPend, tickPend := true }

theorem Effect.bare {i : Instr} {s t : State} (h : Effect i s t) : Effect i s.bare t.bare := by
  cases h with
  | fftLds hidle idx data => exact .fftLds (s := s.bare) hidle idx data
  | fftStart hidle => exact .fftStart (s := s.bare) hidle
  | strWrb hidle idx byte => exact .strWrb (s := s.bare) hidle idx byte
  | strSend hidle => exact .strSend (s := s.bare) hidle
  | strSetfr b => exact .strSetfr (s := s.bare) b
  | snkRstcnt hidle hfull => exact .snkRstcnt (s := s.bare) hidle hfull
  | snkWrfb hidle addr byte haddr => exact .snkWrfb (s := s.bare) hidle addr byte haddr
  | evtLine => exact .evtLine (s := s.bare)

/-- The words whose meaning is the agents' steps (rules R92 to R94). -/
def isRunWord (i : Instr) : Prop := (∃ a, i = .evtStep a) ∨ (∃ a, i = .evtRun a) ∨ i = .evtSettle

theorem of_unlessBusy {b : Bool} {s t u : State} {d : Word} {i : Instr} (hu : b = false → Effect i s u)
    (h : unlessBusy b s (ackWith d u) = .next t) : ∃ v c d, t = v.respond c d ∧ (v = s ∨ Effect i s v) := by
  rcases unlessBusy_eq_next.1 h with ⟨-, rfl⟩ | ⟨hb, h⟩
  · exact ⟨s, _, _, rfl, .inl rfl⟩
  · exact ⟨u, _, _, ackWith_eq_next.1 h, .inr (hu hb)⟩

/-- A command or EVT.LINE answers, and changes nothing else or has its effect. -/
theorem exec_command_cases {i : Instr} {s t : State} (hword : isMicro i = false) (hrun : ¬isRunWord i)
    (h : exec i s = .next t) : ∃ u c d, t = u.respond c d ∧ (u = s ∨ Effect i s u) := by
  have answered {d : Word} (h : ackWith d s = .next t) : ∃ u c d, t = u.respond c d ∧ (u = s ∨ Effect i s u) :=
    ⟨s, _, _, ackWith_eq_next.1 h, .inl rfl⟩
  have readOnly {b : Bool} {d : Word} (h : unlessBusy b s (ackWith d s) = .next t) :
      ∃ u c d, t = u.respond c d ∧ (u = s ∨ Effect i s u) := by
    rcases unlessBusy_eq_next.1 h with ⟨-, rfl⟩ | ⟨-, h⟩
    · exact ⟨s, _, _, rfl, .inl rfl⟩
    · exact answered h
  have hfft (hb : fftBusy s = false) : s.fftPh = .idle := by simpa [fftBusy_eq_decide] using hb
  have hstr (hb : strBusy s = false) : s.strPh = .idle := by simpa [strBusy_eq_decide] using hb
  have hsnk (hb : snkBusy s = false) : s.snkPh = .idle := by simpa [snkBusy_eq_decide] using hb
  cases i with
  | fftStat | fftRds | strStat | strRdb => exact answered h
  | fftRdr | fftRdi | snkStat | snkRdb | snkRdline => exact readOnly h
  | fftLds idx data => exact of_unlessBusy (fun hb => .fftLds (hfft hb) idx data) h
  | fftStart => exact of_unlessBusy (fun hb => .fftStart (hfft hb)) h
  | strWrb idx byte => exact of_unlessBusy (fun hb => .strWrb (hstr hb) idx byte) h
  | strSend => exact of_unlessBusy (fun hb => .strSend (hstr hb)) h
  | strSetfr b => exact ⟨_, _, _, ackWith_eq_next.1 h, .inr (.strSetfr b)⟩
  | evtLine => exact ⟨_, _, _, ackWith_eq_next.1 h, .inr .evtLine⟩
  | snkRstcnt =>
    rcases unlessBusy_eq_next.1 h with ⟨-, rfl⟩ | ⟨hb, h⟩
    · exact ⟨s, _, _, rfl, .inl rfl⟩
    · split at h
      · rename_i hf
        exact ⟨_, _, _, ackWith_eq_next.1 h, .inr (.snkRstcnt (hsnk hb) ((full_iff s).1 hf))⟩
      · exact ⟨s, _, _, raiseNak_eq_next.1 h, .inl rfl⟩
  | snkWrfb addr byte =>
    rcases withFbAddr_eq_next.1 h with ⟨haddr, h⟩ | ⟨-, rfl⟩
    · exact of_unlessBusy (fun hb => .snkWrfb (hsnk hb) addr byte haddr) h
    · exact ⟨s, _, _, rfl, .inl rfl⟩
  | snkRdfb addr =>
    rcases withFbAddr_eq_next.1 h with ⟨-, h⟩ | ⟨-, rfl⟩
    · exact readOnly h
    · exact ⟨s, _, _, rfl, .inl rfl⟩
  | evtStep a => exact absurd (.inl ⟨a, rfl⟩) hrun
  | evtRun a => exact absurd (.inr (.inl ⟨a, rfl⟩)) hrun
  | evtSettle => exact absurd (.inr (.inr rfl)) hrun
  | fftSwap | fftBfly | strWaitrr | strPush | strFin | rasSyncon | rasCount | rasSyncoff | rasEmit | rcvPoll | rcvRd0
  | rcvRdyoff | rcvRdn | lnkLoad | lnkXfer => cases hword

end Sys2Proof.Machine
end

section
/-! PROOFS. One inversion of the step: up to the schedule and the response word, a step is a sequence of moves or the
effect of the command presented; a step of a single turn is one move of the agent that moves, or no move at all. -/

namespace Sys2Proof.Machine

/-! ## Sequences of moves -/

/-- Some agent takes a micro-operation. -/
def AnyMove (s t : State) : Prop := ∃ a, Move a s t

/-- Micro-operations of any agents, one after the other. -/
abbrev Moves : State → State → Prop := Relation.ReflTransGen AnyMove

theorem Moves.bare {s t : State} (h : Moves s t) : Moves s.bare t.bare :=
  Relation.ReflTransGen.lift (p := AnyMove) State.bare (fun _ _ ⟨a, hmove⟩ => ⟨a, hmove.bare⟩) _ _ h

theorem Moves.of_stepAgent (s : State) : ∀ a u v, Moves s u → agentEnabled a u = true → stepAgent a u = .next v →
    Moves s v :=
  fun a _ _ hu he hv => hu.tail ⟨a, stepAgent_move he hv⟩

theorem moves_of_runAgent {a : Agent} {n : Nat} {s : State} {r : State × Nat} (h : runAgent a n s = .next r) :
    Moves s r.1 :=
  runAgent_keeps (Moves.of_stepAgent s a) .refl h

theorem moves_of_settleRounds {n : Nat} {s : State} {r : State × Nat} (h : settleRounds n s = .next r) : Moves s r.1 :=
  settleRounds_keeps (Moves.of_stepAgent s) .refl h

/-- What every move keeps holds after any sequence of them. -/
theorem Moves.keeps {P : State → Prop} {s t : State} (h : Moves s t) (hP : ∀ a s t, P s → Move a s t → P t)
    (hs : P s) : P t := by
  induction h with
  | refl => exact hs
  | tail _ hmove ih =>
    obtain ⟨a, hmove⟩ := hmove
    exact hP a _ _ ih hmove

/-- In a state in order a move is a proper step. -/
theorem Move.proper {a : Agent} {s t : State} (hok : MachineOk s) (h : Move a s t) : ProperStep a s t := by
  cases h with
  | swap hph => exact properStep_of_reorder hok hph
  | bfly hph => exact properStep_of_bfly hok hph
  | waitrr hph hrr => exact properStep_of_waitrr hok hph
  | push hph hthr hBy =>
    have hstep := properStep_of_push hok hph hthr (s.txbins.read (pushIndex s))
    rwa [pushAdvance, if_neg hBy] at hstep
  | pushChunk hph hthr hBy hCh =>
    have hstep := properStep_of_push hok hph hthr (s.txbins.read (pushIndex s))
    rwa [pushAdvance, if_pos hBy, if_neg hCh] at hstep
  | pushFrame hph hthr hBy hCh =>
    have hstep := properStep_of_push hok hph hthr (s.txbins.read (pushIndex s))
    rwa [pushAdvance, if_pos hBy, if_pos hCh] at hstep
  | fin hph hthr htsr => exact properStep_of_waittxc hok hph hthr htsr
  | load hthr htsr => exact hthr ▸ properStep_of_load hok htsr (by simp [hthr])
  | xfer htsr hroom =>
    have hstep := properStep_of_xfer hok htsr
    rwa [arrive_of_room hroom] at hstep
  | lose htsr hfull =>
    have hstep := properStep_of_xfer hok htsr
    rwa [arrive_of_full hfull] at hstep
  | syncon hph htick => exact properStep_of_tick hok hph htick
  | count hph => exact properStep_of_count hok hph
  | syncoff hph => exact properStep_of_syncoff hok hph
  | emit hph hcol =>
    have heq : emitAdvance (s.shiftOut (s.fb.read (emitIndex s))) =
        { s.shiftOut (s.fb.read (emitIndex s)) with col := s.col + 1 } := if_neg hcol
    exact heq ▸ properStep_of_emit hok hph (s.fb.read (emitIndex s))
  | emitLast hph hcol =>
    have heq : emitAdvance (s.shiftOut (s.fb.read (emitIndex s))) =
        { s.shiftOut (s.fb.read (emitIndex s)) with col := 0, snkPh := .idle } := if_pos hcol
    exact heq ▸ properStep_of_emit hok hph (s.fb.read (emitIndex s))
  | accept hph hdr hcnt =>
    have hstep := properStep_of_rpoll hok hph
    rwa [if_pos (by simp [hdr, hcnt])] at hstep
  | decline hph hno =>
    have hstep := properStep_of_rpoll hok hph
    rwa [if_neg (by simpa using hno)] at hstep
  | rd0 hph hq => exact properStep_of_rrd0 hok hph hq
  | rdyoff hph => exact properStep_of_rrdyoff hok hph
  | rdn hph hq hrb =>
    have hstep := properStep_of_rrdn hok hph hq
    rwa [if_neg hrb] at hstep
  | rdnLast hph hq hrb =>
    have hstep := properStep_of_rrdn hok hph hq
    rwa [if_pos hrb] at hstep

/-- The same for what moves keep in states in order. -/
theorem Moves.keeps_of_ok {P : State → Prop} {s t : State} (h : Moves s t)
    (hP : ∀ a s t, MachineOk s → P s → Move a s t → P t) (hok : MachineOk s) (hs : P s) : P t := by
  have hboth : MachineOk t ∧ P t :=
    h.keeps (P := fun u => MachineOk u ∧ P u)
      (fun a u v ⟨hu, hPu⟩ hmove => ⟨(hmove.proper hu).ok, hP a u v hu hPu hmove⟩)
      ⟨hok, hs⟩
  exact hboth.2

/-- The invariant does not depend on the schedule, and holds of an unanswered state. -/
theorem MachineOk.bare {s : State} (h : MachineOk s) : MachineOk s.bare :=
  ⟨h.config, h.memories, h.fft, h.streamer, h.receiver, h.raster, rfl⟩

/-! ## An operation by itself -/

/-- A micro-operation that does more than hold is the one selected for an agent that is enabled. -/
theorem exec_micro_cases {i : Instr} {s t : State} (hi : isMicro i = true) (h : exec i s = .next t) :
    t = s ∨ ∃ a, decode (agentCode a s) = .ok i ∧ Move a s t := by
  have selected {a : Agent} (hcode : decode (agentCode a s) = .ok i) (he : agentEnabled a s = true) :
      t = s ∨ ∃ a, decode (agentCode a s) = .ok i ∧ Move a s t := by
    refine .inr ⟨a, hcode, stepAgent_move he ?_⟩
    rw [stepAgent_eq_exec, hcode]
    exact h
  have whenIn {p : Prop} {b : Bool} {go : Result} (hb : b = true ↔ p) (heq : exec i s = whenEnabled b s go)
      (hp : p → t = s ∨ ∃ a, decode (agentCode a s) = .ok i ∧ Move a s t) :
      t = s ∨ ∃ a, decode (agentCode a s) = .ok i ∧ Move a s t := by
    by_cases hbp : p
    · exact hp hbp
    · rw [heq, whenEnabled_of_not_clause hb hbp] at h
      injection h with h
      exact .inl h.symm
  cases i with
  | fftSwap =>
    refine whenIn (p := s.fftPh = .reorder) (by simp [swapEnabled]) rfl fun hph => selected (a := .fft) ?_ ?_
    · rw [decode_agentCode_fft, hph]
    · exact (agentEnabled_fft s).2 (.inl hph)
  | fftBfly =>
    refine whenIn (p := s.fftPh = .bfly) (by simp [bflyEnabled]) rfl fun hph => selected (a := .fft) ?_ ?_
    · rw [decode_agentCode_fft, hph]
    · exact (agentEnabled_fft s).2 (.inr hph)
  | strWaitrr =>
    refine whenIn (waitrrEnabled_iff s) rfl fun ⟨hph, hrr⟩ => selected (a := .str) ?_ ?_
    · rw [decode_agentCode_str, hph]
    · exact (agentEnabled_str s).2 (.inl ⟨hph, hrr⟩)
  | strPush =>
    refine whenIn (pushEnabled_iff s) rfl fun ⟨hph, hthr⟩ => selected (a := .str) ?_ ?_
    · rw [decode_agentCode_str, hph]
    · exact (agentEnabled_str s).2 (.inr (.inl ⟨hph, hthr⟩))
  | strFin =>
    refine whenIn (finEnabled_iff s) rfl fun ⟨hph, hthr, htsr⟩ => selected (a := .str) ?_ ?_
    · rw [decode_agentCode_str, hph]
    · exact (agentEnabled_str s).2 (.inr (.inr ⟨hph, hthr, htsr⟩))
  | rasSyncon =>
    refine whenIn (synconEnabled_iff s) rfl fun ⟨hph, htick⟩ => selected (a := .snk) ?_ ?_
    · rw [decode_agentCode_snk, hph]
    · rw [agentEnabled_snk, hph]; exact htick
  | rasCount =>
    refine whenIn (countEnabled_iff s) rfl fun hph => selected (a := .snk) ?_ ?_
    · rw [decode_agentCode_snk, hph]
    · rw [agentEnabled_snk, hph]
  | rasSyncoff =>
    refine whenIn (syncoffEnabled_iff s) rfl fun hph => selected (a := .snk) ?_ ?_
    · rw [decode_agentCode_snk, hph]
    · rw [agentEnabled_snk, hph]
  | rasEmit =>
    refine whenIn (emitEnabled_iff s) rfl fun hph => selected (a := .snk) ?_ ?_
    · rw [decode_agentCode_snk, hph]
    · rw [agentEnabled_snk, hph]
  | rcvPoll =>
    refine whenIn (pollEnabled_iff s) rfl fun hph => selected (a := .snk) ?_ ?_
    · rw [decode_agentCode_snk, hph]
    · rw [agentEnabled_snk, hph]
  | rcvRd0 =>
    refine whenIn (p := s.snkPh = .rrd0 ∧ rxc s = true) (by simp [rd0Enabled]) rfl fun ⟨hph, hrxc⟩ =>
      selected (a := .snk) ?_ ?_
    · rw [decode_agentCode_snk, hph]
    · rw [agentEnabled_snk, hph]; exact hrxc
  | rcvRdyoff =>
    refine whenIn (rdyoffEnabled_iff s) rfl fun hph => selected (a := .snk) ?_ ?_
    · rw [decode_agentCode_snk, hph]
    · rw [agentEnabled_snk, hph]
  | rcvRdn =>
    refine whenIn (p := s.snkPh = .rrdn ∧ rxc s = true) (by simp [rdnEnabled]) rfl fun ⟨hph, hrxc⟩ =>
      selected (a := .snk) ?_ ?_
    · rw [decode_agentCode_snk, hph]
    · rw [agentEnabled_snk, hph]; exact hrxc
  | lnkLoad =>
    refine whenIn (p := s.thr.isSome = true ∧ s.tsr = none) (by simp [loadEnabled]) rfl fun ⟨hthr, htsr⟩ =>
      selected (a := .lnk) ?_ ?_
    · rw [decode_agentCode_lnk]
      simp [htsr, hthr]
    · exact (agentEnabled_lnk s).2 (.inr ⟨htsr, hthr⟩)
  | lnkXfer =>
    cases htsr : s.tsr with
    | none =>
      rw [exec_lnkXfer_of_empty htsr] at h
      injection h with h
      exact .inl h.symm
    | some b =>
      refine selected (a := .lnk) ?_ ((agentEnabled_lnk s).2 (.inl (by simp [htsr])))
      rw [decode_agentCode_lnk]
      simp [htsr]
  | _ => cases hi

theorem exec_evtStep_cases {a : Agent} {s t : State} (h : exec (.evtStep a) s = .next t) :
    (agentEnabled a s = false ∧ t = s.respond .ack 0) ∨ ∃ u, Move a s u ∧ t = u.respond .ack 1 := by
  change execEvtStep a s = _ at h
  by_cases he : agentEnabled a s = true
  · rw [execEvtStep, if_pos he, andThen_eq_next] at h
    obtain ⟨u, hu, h⟩ := h
    exact .inr ⟨u, stepAgent_move he hu, ackWith_eq_next.1 h⟩
  · rw [execEvtStep, if_neg he] at h
    exact .inl ⟨by simpa using he, ackWith_eq_next.1 h⟩

theorem exec_evtRun_moves {a : Agent} {s t : State} (h : exec (.evtRun a) s = .next t) : Moves s.bare t.bare := by
  change execEvtRun a s = _ at h
  rw [execEvtRun, andThen_eq_next] at h
  obtain ⟨r, hr, h⟩ := h
  rw [ackWith_eq_next.1 h]
  exact (moves_of_runAgent hr).bare

theorem exec_evtSettle_moves {s t : State} (h : exec .evtSettle s = .next t) : Moves s.bare t.bare := by
  change execEvtSettle s = _ at h
  rw [execEvtSettle, andThen_eq_next] at h
  obtain ⟨r, hr, h⟩ := h
  rw [ackWith_eq_next.1 h]
  exact (moves_of_settleRounds hr).bare

/-- An operation that is at most one step of an agent: nothing, one move, or a command's effect. -/
theorem exec_single_cases {i : Instr} {s t : State} (hrun : ∀ a, i ≠ .evtRun a) (hsettle : i ≠ .evtSettle)
    (h : exec i s = .next t) : t.bare = s.bare ∨
      (∃ a, (i = .evtStep a ∨ decode (agentCode a s) = .ok i) ∧ Move a s.bare t.bare) ∨ Effect i s.bare t.bare := by
  by_cases hi : isMicro i = true
  · rcases exec_micro_cases hi h with rfl | ⟨a, hcode, hmove⟩
    · exact .inl rfl
    · exact .inr (.inl ⟨a, .inr hcode, hmove.bare⟩)
  by_cases hstep : ∃ a, i = .evtStep a
  · obtain ⟨a, rfl⟩ := hstep
    rcases exec_evtStep_cases h with ⟨-, rfl⟩ | ⟨u, hmove, rfl⟩
    · exact .inl rfl
    · exact .inr (.inl ⟨a, .inl rfl, hmove.bare⟩)
  · have hword : ¬isRunWord i := by
      rintro (hs | ⟨a, ha⟩ | hs)
      · exact hstep hs
      · exact hrun a ha
      · exact hsettle hs
    obtain ⟨u, c, d, rfl, rfl | heffect⟩ := exec_command_cases (by simpa using hi) hword h
    · exact .inl rfl
    · exact .inr (.inr heffect.bare)

/-! ## A step -/

/-- The next turn is a word that the operation is decoded from. -/
def Presents (i : Instr) (s : State) : Prop := ∃ w ts, s.turns = .word w :: ts ∧ decode (.word w) = .ok i

theorem presents_head {i : Instr} {w : PortWord} {s : State} (henc : encode i = .word w) (h : Presents i s) :
    s.turns.head? = some (.word w) := by
  obtain ⟨w', ts, hturns, hdec⟩ := h
  have hw := (encode_of_decode_word hdec).symm.trans henc
  injection hw with hw
  rw [hturns, hw]
  rfl

/-- What a step does: an empty schedule, a rejected word, an agent's turn, or a decoded word. -/
theorem step_cases {s t : State} (h : step s = .next t) :
    (s.turns = [] ∧ t = s) ∨
    (∃ w ts why, s.turns = .word w :: ts ∧ decode (.word w) = .error why ∧ t = s.popTurn.respond .nakArg 0) ∨
    (∃ a ts, s.turns = .agent a :: ts ∧ stepAgent a s.popTurn = .next t) ∨
    (∃ w ts i, s.turns = .word w :: ts ∧ decode (.word w) = .ok i ∧ exec i s.popTurn = .next t) := by
  unfold step at h
  split at h
  · rename_i hnil
    injection h with h
    exact .inl ⟨hnil, h.symm⟩
  · rename_i turn ts hturns
    cases turn with
    | word w =>
      simp only [turnCode] at h
      split at h
      · rename_i i hi
        exact .inr (.inr (.inr ⟨w, ts, i, hturns, hi, h⟩))
      · rename_i why hwhy
        exact .inr (.inl ⟨w, ts, why, hturns, hwhy, raiseNak_eq_next.1 h⟩)
    | agent a =>
      refine .inr (.inr (.inl ⟨a, ts, hturns, ?_⟩))
      rw [stepAgent_eq_exec]
      simp only [turnCode] at h
      have hcode : agentCode a s.popTurn = agentCode a s := rfl
      rw [hcode]
      cases hdec : decode (agentCode a s) with
      | ok i =>
        rw [hdec] at h
        exact h
      | error why =>
        rw [hdec] at h
        exact h

/-- A step is a sequence of moves, or the effect of the command that the next word presents. -/
theorem step_moves_or_effect {s t : State} (h : step s = .next t) :
    Moves s.bare t.bare ∨ ∃ i, Presents i s ∧ Effect i s.bare t.bare := by
  rcases step_cases h with ⟨-, rfl⟩ | ⟨w, ts, why, -, -, rfl⟩ | ⟨a, ts, -, ht⟩ | ⟨w, ts, i, hturns, hi, ht⟩
  · exact .inl .refl
  · exact .inl .refl
  · by_cases he : agentEnabled a s.popTurn = true
    · exact .inl (.single ⟨a, (stepAgent_move he ht).bare⟩)
    · rw [stepAgent_of_disabled (by simpa using he)] at ht
      injection ht with ht
      exact ht ▸ .inl .refl
  · by_cases hrun : ∃ a, i = .evtRun a
    · obtain ⟨a, rfl⟩ := hrun
      exact .inl (exec_evtRun_moves (s := s.popTurn) ht)
    by_cases hsettle : i = .evtSettle
    · subst hsettle
      exact .inl (exec_evtSettle_moves (s := s.popTurn) ht)
    rcases exec_single_cases (fun a ha => hrun ⟨a, ha⟩) hsettle ht with heq | ⟨a, -, hmove⟩ | heffect
    · exact .inl (heq ▸ .refl)
    · exact .inl (.single ⟨a, hmove⟩)
    · exact .inr ⟨i, ⟨w, ts, hturns, hi⟩, heffect⟩

/-! ## A step of a single turn -/

/-- The agent that moves is enabled and is the one its own turn or its EVT.STEP word names. -/
theorem agentMoves_iff {a : Agent} {s : State} : agentMoves a s = true ↔
    ((∃ ts, s.turns = .agent a :: ts) ∨ Presents (.evtStep a) s) ∧ agentEnabled a s = true := by
  simp only [agentMoves, Bool.and_eq_true, beq_iff_eq, Option.bind_eq_some_iff, turnAgent_eq_some, Presents,
    List.head?_eq_some_iff]
  refine and_congr_left fun _ => ⟨?_, ?_⟩
  · rintro ⟨turn, ⟨ts, hturns⟩, rfl | ⟨w, rfl, hw⟩⟩
    · exact .inl ⟨ts, hturns⟩
    · exact .inr ⟨w, ts, hturns, hw⟩
  · rintro (⟨ts, hturns⟩ | ⟨w, ts, hturns, hw⟩)
    · exact ⟨_, ⟨ts, hturns⟩, .inl rfl⟩
    · exact ⟨_, ⟨ts, hturns⟩, .inr ⟨w, rfl, hw⟩⟩

/-- At most one agent moves in a step. -/
theorem agentMoves_unique {a b : Agent} {s : State} (ha : agentMoves a s = true) (hb : agentMoves b s = true) :
    a = b := by
  simp only [agentMoves, Bool.and_eq_true, beq_iff_eq] at ha hb
  exact Option.some.inj (ha.1.symm.trans hb.1)

/-- The next turn, if any, is at most one step of an agent. -/
def NextIsSingle (s : State) : Prop := ∀ turn ∈ s.turns.head?, singleTurn turn = true

theorem nextIsSingle_of_all {s : State} (h : ∀ turn ∈ s.turns, singleTurn turn = true) : NextIsSingle s :=
  fun turn hturn => h turn (List.mem_of_mem_head? hturn)

/-- By a single turn, the agent that moves takes one move, and where none moves nothing or a command happens. -/
theorem step_single_cases {s t : State} (hsingle : NextIsSingle s) (h : step s = .next t) :
    (∃ a, agentMoves a s = true ∧ Move a s.bare t.bare) ∨
    ((∀ a, agentMoves a s = false) ∧ (t.bare = s.bare ∨ ∃ i, Presents i s ∧ Effect i s.bare t.bare)) := by
  have none_of_word {w : PortWord} {ts : List Turn} (hturns : s.turns = .word w :: ts)
      (hw : ∀ a, decode (.word w) = .ok (.evtStep a) → agentEnabled a s = false) : ∀ a, agentMoves a s = false := by
    intro a
    rw [Bool.eq_false_iff, ne_eq, agentMoves_iff]
    rintro ⟨⟨ts', hts'⟩ | ⟨w', ts', hts', hdec⟩, he⟩
    · simp [hturns] at hts'
    · obtain ⟨rfl, -⟩ : w = w' ∧ ts = ts' := by simpa [hturns] using hts'
      simp [hw a hdec] at he
  rcases step_cases h with ⟨hnil, rfl⟩ | ⟨w, ts, why, hturns, hwhy, rfl⟩ | ⟨a, ts, hturns, ht⟩ |
    ⟨w, ts, i, hturns, hi, ht⟩
  · exact .inr ⟨fun a => by simp [agentMoves, hnil], .inl rfl⟩
  · exact .inr ⟨none_of_word hturns (by simp [hwhy]), .inl rfl⟩
  · by_cases he : agentEnabled a s = true
    · exact .inl ⟨a, agentMoves_iff.2 ⟨.inl ⟨ts, hturns⟩, he⟩, (stepAgent_move (s := s.popTurn) he ht).bare⟩
    · have hdis : agentEnabled a s = false := by simpa using he
      rw [stepAgent_of_disabled (s := s.popTurn) hdis] at ht
      injection ht with ht
      refine .inr ⟨fun b => ?_, .inl (ht ▸ rfl)⟩
      by_cases hab : a = b
      · simp [agentMoves, ← hab, hdis]
      · simp [agentMoves, hturns, turnAgent, hab]
  · have hturn := hsingle (.word w) (by simp [hturns])
    simp only [singleTurn, hi] at hturn
    have hrun : ∀ a, i ≠ .evtRun a := by
      rintro a rfl
      cases hturn
    have hsettle : i ≠ .evtSettle := by
      rintro rfl
      cases hturn
    by_cases hstep : ∃ a, i = .evtStep a
    · obtain ⟨a, rfl⟩ := hstep
      rcases exec_evtStep_cases ht with ⟨hdis, rfl⟩ | ⟨u, hmove, rfl⟩
      · exact .inr ⟨none_of_word hturns fun b hb => by cases hi.symm.trans hb; exact hdis, .inl rfl⟩
      · exact .inl ⟨a, agentMoves_iff.2 ⟨.inr ⟨w, ts, hturns, hi⟩, hmove.enabled⟩, hmove.bare⟩
    · have hnone : ∀ a, agentMoves a s = false :=
        none_of_word hturns fun b hb => absurd ⟨b, by injection hi.symm.trans hb⟩ hstep
      have hword : ¬isRunWord i := by
        rintro (hs | ⟨a, ha⟩ | hs)
        · exact hstep hs
        · exact hrun a ha
        · exact hsettle hs
      obtain ⟨u, c, d, rfl, rfl | heffect⟩ := exec_command_cases (isMicro_of_decode_word hi) hword ht
      · exact .inr ⟨hnone, .inl rfl⟩
      · exact .inr ⟨hnone, .inr ⟨i, ⟨w, ts, hturns, hi⟩, heffect.bare⟩⟩

end Sys2Proof.Machine
end

section
/-! PROOFS. The invariant and the claims about every step (statements StepTakesTheFirstTurn, ResetMeetsInvariant,
StepKeepsInvariant, StepNeverStops, OnlyListedOperationsWrite, StickyBitsAndParameters, OwnershipGates and
LostByteStallsBothNodes): each is read off the moves and the commands' effects. -/

namespace Sys2Proof.Machine

/-! ## The first turn (rules R75, R99, R100) -/

theorem step_of_word {s : State} {w : PortWord} {ts : List Turn} {i : Instr} (hturns : s.turns = .word w :: ts)
    (hi : decode (.word w) = .ok i) : step s = exec i { s with turns := ts } := by
  simp only [step, hturns, turnCode, hi, State.popTurn, List.tail_cons]

theorem step_of_agent {s : State} {a : Agent} {ts : List Turn} {i : Instr} (hturns : s.turns = .agent a :: ts)
    (hi : decode (agentCode a s) = .ok i) : step s = exec i { s with turns := ts } := by
  simp only [step, hturns, turnCode, hi, State.popTurn, List.tail_cons]

/-- Settles O7: the step's two matches, on the schedule and on the decoder's answer. -/
theorem stepTakesTheFirstTurn : Obligations.StepTakesTheFirstTurn := by
  refine ⟨fun s hnil => ?_, fun s w ts i => step_of_word, fun s a ts i => step_of_agent,
    fun s w ts why hturns hwhy => ?_, fun s a ts why hturns hwhy => ?_⟩
  · simp only [step, hnil]
  · simp only [step, hturns, turnCode, hwhy]
    simp only [rejectTurn, raiseNak, State.respond, State.popTurn, hturns, List.tail_cons]
  · simp only [step, hturns, turnCode, hwhy]
    simp only [rejectTurn, hold, State.popTurn, hturns, List.tail_cons]

/-! ## The invariant at reset (rule R271) -/

theorem machineOk_resetWith {c : Config} (hc : c.valid = true) : MachineOk (State.resetWith c) := by
  obtain ⟨hfirst, htop, hbot, hstart, hend, hwrap, -, -⟩ := config_bounds_of_valid hc
  have hline : (State.resetWith c).line.toNat = c.wrapAt - 1 := Nat.mod_eq_of_lt (by omega)
  refine ⟨hc, ⟨⟨rfl, rfl⟩, ⟨rfl, rfl⟩, ⟨rfl, rfl⟩, ⟨rfl, rfl⟩, rfl, rfl⟩, fftOk_of_idle rfl ⟨rfl, rfl, rfl⟩,
    streamerOk_of_idle rfl rfl rfl rfl rfl (.inl rfl), ?_, ?_, rfl⟩
  · exact ⟨Nat.zero_le _, Nat.zero_le _, rfl, by simp [State.resetWith], fun _ _ => rfl, nofun, nofun, nofun⟩
  · refine ⟨?_, ?_, ?_, nofun, fun _ => rfl, by simp [State.resetWith], fun _ _ => rfl⟩
    · rw [hline]; change c.lineFirst ≤ _; omega
    · rw [hline]; change _ < c.wrapAt; omega
    · rw [hline]
      change false = true ↔ c.vsStart ≤ _ ∧ _ < c.vsEnd
      simp only [Bool.false_eq_true, false_iff]
      omega

/-- Settles O43: at reset the line is the one before the wrap, below the sync region's end. -/
theorem resetMeetsInvariant : Obligations.ResetMeetsInvariant :=
  ⟨fun _ => machineOk_resetWith, machineOk_resetWith (by decide +kernel)⟩

/-! ## The invariant after a step -/

/-- A command's effect keeps its unit in order. -/
theorem Effect.keeps_ok {i : Instr} {s t : State} (heffect : Effect i s t) (h : MachineOk s) : MachineOk t := by
  obtain ⟨hcfg, hmem, hfft, hstr, hrcv, hras, hresp⟩ := h
  obtain ⟨hfr, hfi, htx, hrx, hfb⟩ := hmem
  cases heffect with
  | fftLds hidle idx data =>
    exact ⟨hcfg, ⟨⟨Memory.wf_write hfr.1 .., Memory.within_write hfr.2 idx.isLt _⟩,
      ⟨Memory.wf_write hfi.1 .., Memory.within_write hfi.2 idx.isLt _⟩, htx, hrx, hfb⟩,
      fftOk_of_idle hidle (hfft.1 hidle), hstr, hrcv, hras, hresp⟩
  | fftStart hidle =>
    exact ⟨hcfg, ⟨hfr, hfi, htx, hrx, hfb⟩, fftOk_of_reorder rfl nofun rfl rfl Nat.one_pos, hstr, hrcv, hras, hresp⟩
  | strWrb hidle idx byte =>
    exact ⟨hcfg, ⟨hfr, hfi, ⟨Memory.wf_write htx.1 .., Memory.within_write htx.2 idx.isLt _⟩, hrx, hfb⟩, hfft, hstr,
      hrcv, hras, hresp⟩
  | strSend hidle =>
    exact ⟨hcfg, ⟨hfr, hfi, htx, hrx, hfb⟩, hfft, streamerOk_of_waitrr rfl rfl rfl (Nat.succ_pos 7), hrcv, hras, hresp⟩
  | strSetfr b => exact ⟨hcfg, ⟨hfr, hfi, htx, hrx, hfb⟩, hfft, hstr, hrcv, hras, hresp⟩
  | snkRstcnt hidle hfull =>
    obtain ⟨hlen, -, -, hrr, hrb, -⟩ := hrcv
    have hrb0 : s.rb = 0 := hrb (by simp [hidle]) (by simp [hidle])
    exact ⟨hcfg, ⟨hfr, hfi, htx, hrx, hfb⟩, hfft, hstr,
      ⟨hlen, Nat.zero_le _, by rw [hrb0]; rfl, hrr, hrb, by simp [hidle], by simp [hidle], by simp [hidle]⟩, hras,
      hresp⟩
  | snkWrfb hidle addr byte haddr =>
    exact ⟨hcfg, ⟨hfr, hfi, htx, hrx, ⟨Memory.wf_write hfb.1 .., Memory.within_write hfb.2 haddr _⟩⟩, hfft, hstr, hrcv,
      hras, hresp⟩
  | evtLine => exact ⟨hcfg, ⟨hfr, hfi, htx, hrx, hfb⟩, hfft, hstr, hrcv, hras, hresp⟩

theorem MachineOk.of_bare {s : State} (h : MachineOk s.bare) (hresp : ResponseOk s) : MachineOk s :=
  ⟨h.config, h.memories, h.fft, h.streamer, h.receiver, h.raster, hresp⟩

/-- The response of a command is well shaped (rule R98). -/
theorem responseShape_responseWord {c : RespCode} {d : Word} (h : c ≠ .ack → d = 0) :
    responseShape (responseWord c d) = true := by
  simp only [responseShape, Bool.and_eq_true, decide_eq_true_eq, Bool.or_eq_true, beq_iff_eq]
  by_cases hc : c = .ack
  · subst hc
    have hnum : (responseWord .ack d).toNat = d.toNat := by simpa using responseWord_toNat .ack d
    refine ⟨by omega, .inl (BitVec.eq_of_toNat_eq ?_)⟩
    rw [BitVec.extractLsb'_toNat, hnum, Nat.shiftRight_eq_div_pow, Nat.div_eq_of_lt d.isLt]
    rfl
  · have hd := h hc
    subst hd
    cases c with
    | ack => exact absurd rfl hc
    | nakBusy | nakArg | nakState => decide

theorem AnswersWith.responseOk {c : RespCode} {s t : State} (h : AnswersWith c s (.next t)) : ResponseOk t := by
  obtain ⟨u, d, hu, -, hresp, hnak⟩ := h
  injection hu with hu
  subst hu
  rw [ResponseOk, hresp]
  exact responseShape_responseWord fun hc => (hnak hc).1

/-- An agent's turn leaves the response word, and every word is answered. -/
theorem step_responseOk {s t : State} (h : MachineOk s) (hstep : step s = .next t) : ResponseOk t := by
  rcases step_cases hstep with ⟨-, rfl⟩ | ⟨w, ts, -, hturns, -⟩ | ⟨a, ts, -, ht⟩ | ⟨w, ts, -, hturns, -⟩
  · exact h.response
  · exact (hstep ▸ step_word_answersWith h hturns).responseOk
  · by_cases he : agentEnabled a s.popTurn = true
    · rw [ResponseOk, ((stepAgent_move he ht).proper h.popTurn).resp]
      exact h.response
    · rw [stepAgent_of_disabled (by simpa using he)] at ht
      injection ht with ht
      exact ht ▸ h.response
  · exact (hstep ▸ step_word_answersWith h hturns).responseOk

theorem step_keeps_ok {s t : State} (h : MachineOk s) (hstep : step s = .next t) : MachineOk t := by
  refine .of_bare ?_ (step_responseOk h hstep)
  rcases step_moves_or_effect hstep with hmoves | ⟨i, -, heffect⟩
  · exact hmoves.keeps (fun a u v hu hmove => (hmove.proper hu).ok) h.bare
  · exact heffect.keeps_ok h.bare

/-- Settles O44: moves are proper steps, and each command's effect keeps its unit in order. -/
theorem stepKeepsInvariant : Obligations.StepKeepsInvariant := fun _ _ => step_keeps_ok

theorem exists_step {s : State} (h : MachineOk s) : ∃ t, step s = .next t := by
  cases hturns : s.turns with
  | nil => exact ⟨s, by simp only [step, hturns]⟩
  | cons turn ts =>
    cases turn with
    | word w =>
      obtain ⟨t, d, hstep, -⟩ := step_word_answersWith h hturns
      exact ⟨t, hstep⟩
    | agent a =>
      have hagent : ∃ t, stepAgent a s.popTurn = .next t := by
        by_cases he : agentEnabled a s.popTurn = true
        · obtain ⟨t, ht, -⟩ := exists_properStep h.popTurn he
          exact ⟨t, ht⟩
        · exact ⟨_, stepAgent_of_disabled (by simpa using he)⟩
      obtain ⟨t, ht⟩ := hagent
      rw [stepAgent_eq_exec] at ht
      refine ⟨t, ?_⟩
      simp only [step, hturns, turnCode]
      exact ht

/-- Settles O45: a word is answered, an enabled agent has a proper step, another holds. -/
theorem stepNeverStops : Obligations.StepNeverStops := fun _ => exists_step

/-! ## Who writes what (rule R20) -/

theorem Move.fft_swap_or_bfly {s t : State} (h : Move .fft s t) :
    (s.fftPh = .reorder ∧ t = swapAdvance { s with fr := swapCells s.regM s.fr }) ∨
    (s.fftPh = .bfly ∧ t = bflyAdvance (bflyCells s)) := by
  cases h with
  | swap hph => exact .inl ⟨hph, rfl⟩
  | bfly hph => exact .inr ⟨hph, rfl⟩

/-- Settles O46: in each case of each operation the fields written stand in its row of the table. -/
theorem onlyListedOperationsWrite : Obligations.OnlyListedOperationsWrite := by
  intro i s t hi h
  by_cases hmicro : isMicro i = true
  · rcases exec_micro_cases hmicro h with rfl | ⟨a, hcode, hmove⟩
    · simp
    cases a with
    | fft =>
      rw [decode_agentCode_fft] at hcode
      rcases hmove.fft_swap_or_bfly with ⟨hph, rfl⟩ | ⟨hph, rfl⟩ <;> rw [hph] at hcode <;>
        injection hcode with hcode <;> subst hcode
      · rcases swapAdvance_cases { s with fr := swapCells s.regM s.fr } with ⟨-, heq⟩ | ⟨-, heq⟩ <;> rw [heq] <;> simp
      · rw [bflyAdvance_bflyCells_frame]
        simp
    | str =>
      rw [decode_agentCode_str] at hcode
      cases hmove <;> simp only [*, Except.ok.injEq] at hcode <;> subst hcode <;> simp
    | lnk =>
      rw [decode_agentCode_lnk] at hcode
      cases hmove <;> simp [*] at hcode <;> subst hcode <;> simp
    | snk =>
      rw [decode_agentCode_snk] at hcode
      cases hmove <;> simp only [*, Except.ok.injEq] at hcode <;> subst hcode <;> simp [encode, byteTaken]
  · have hword : isMicro i = false := by simpa using hmicro
    have hrun : ¬isRunWord i := by
      rintro (⟨a, rfl⟩ | ⟨a, rfl⟩ | rfl) <;> simp [isMicro, isCommand, encode] at hi
    obtain ⟨u, c, d, rfl, rfl | heffect⟩ := exec_command_cases hword hrun h
    · simp [hword]
    · cases heffect <;> simp [hword]

/-! ## Sticky bits, the output trace and the schedule (rules R41, R45, R53, R78) -/

theorem Move.turns {a : Agent} {s t : State} (h : Move a s t) : t.turns = s.turns := by
  cases a with
  | fft => rw [h.fft_frame]
  | str | lnk | snk => cases h <;> rfl

theorem Effect.turns {i : Instr} {s t : State} (h : Effect i s t) : t.turns = s.turns := by
  cases h <;> rfl

theorem Moves.turns {s t : State} (h : Moves s t) : t.turns = s.turns :=
  h.keeps (P := fun u => u.turns = s.turns) (fun _ _ _ hu hmove => hmove.turns.trans hu) rfl

theorem exec_turns {i : Instr} {s t : State} (h : exec i s = .next t) : t.turns = s.turns := by
  by_cases hmicro : isMicro i = true
  · rcases exec_micro_cases hmicro h with rfl | ⟨a, -, hmove⟩
    · rfl
    · exact hmove.turns
  by_cases hrun : isRunWord i
  · rcases hrun with ⟨a, rfl⟩ | ⟨a, rfl⟩ | rfl
    · rcases exec_evtStep_cases h with ⟨-, rfl⟩ | ⟨u, hmove, rfl⟩
      · rfl
      · exact hmove.turns
    · change execEvtRun a s = _ at h
      rw [execEvtRun, andThen_eq_next] at h
      obtain ⟨r, hr, h⟩ := h
      rw [ackWith_eq_next.1 h, State.respond_turns, (moves_of_runAgent hr).turns]
    · change execEvtSettle s = _ at h
      rw [execEvtSettle, andThen_eq_next] at h
      obtain ⟨r, hr, h⟩ := h
      rw [ackWith_eq_next.1 h, State.respond_turns, (moves_of_settleRounds hr).turns]
  · obtain ⟨u, c, d, rfl, rfl | heffect⟩ := exec_command_cases (by simpa using hmicro) hrun h
    · rfl
    · exact heffect.turns

/-- A step uses its turn and no other. -/
theorem step_turns {s t : State} (h : step s = .next t) : t.turns = s.turns.tail := by
  rcases step_cases h with ⟨hnil, rfl⟩ | ⟨w, ts, why, -, -, rfl⟩ | ⟨a, ts, -, ht⟩ | ⟨w, ts, i, -, -, ht⟩
  · rw [hnil, List.tail_nil]
  · rfl
  · by_cases he : agentEnabled a s.popTurn = true
    · exact (stepAgent_move he ht).turns
    · rw [stepAgent_of_disabled (by simpa using he)] at ht
      injection ht with ht
      exact ht ▸ rfl
  · exact exec_turns ht

/-- What a state has that no later one loses: the parameters, the overrun bit and the events sent. -/
structure Kept (s t : State) : Prop where
  cfg : t.cfg = s.cfg
  ovr : s.ovr = true → t.ovr = true
  out : s.out <+: t.out

theorem Kept.of_eq {s t : State} (hcfg : t.cfg = s.cfg) (hovr : t.ovr = s.ovr) (hout : t.out = s.out) : Kept s t :=
  ⟨hcfg, fun h => hovr.trans h, hout ▸ List.prefix_refl _⟩

theorem Kept.trans {s t u : State} (hst : Kept s t) (htu : Kept t u) : Kept s u :=
  ⟨htu.cfg.trans hst.cfg, fun h => htu.ovr (hst.ovr h), hst.out.trans htu.out⟩

theorem Move.kept {a : Agent} {s t : State} (h : Move a s t) : Kept s t := by
  cases a with
  | fft => rw [h.fft_frame]; exact .of_eq rfl rfl rfl
  | str => cases h <;> exact .of_eq rfl rfl rfl
  | lnk =>
    cases h with
    | load | xfer => exact .of_eq rfl rfl rfl
    | lose => exact ⟨rfl, fun _ => rfl, List.prefix_refl _⟩
  | snk =>
    cases h with
    | syncon | syncoff | emit | emitLast => exact ⟨rfl, id, List.prefix_append ..⟩
    | count | accept | decline | rd0 | rdyoff | rdn | rdnLast => exact .of_eq rfl rfl rfl

theorem Move.miss {a : Agent} {s t : State} (h : Move a s t) : t.miss = s.miss := by
  cases a with
  | fft => rw [h.fft_frame]
  | str | lnk | snk => cases h <;> rfl

theorem Moves.kept {s t : State} (h : Moves s t) : Kept s t :=
  h.keeps (P := Kept s) (fun _ _ _ hu hmove => hu.trans hmove.kept) (.of_eq rfl rfl rfl)

theorem Moves.miss {s t : State} (h : Moves s t) : t.miss = s.miss :=
  h.keeps (P := fun u => u.miss = s.miss) (fun _ _ _ hu hmove => hmove.miss.trans hu) rfl

theorem Effect.kept {i : Instr} {s t : State} (h : Effect i s t) : Kept s t := by
  cases h <;> exact .of_eq rfl rfl rfl

/-- Only a tick touches `MISS`, and sets it when one is pending (rule R181). -/
theorem Effect.miss {i : Instr} {s t : State} (h : Effect i s t) :
    t.miss = s.miss ∨ (i = .evtLine ∧ t.miss = (s.miss || s.tickPend)) := by
  cases h with
  | evtLine => exact .inr ⟨rfl, rfl⟩
  | fftLds | fftStart | strWrb | strSend | strSetfr | snkRstcnt | snkWrfb => exact .inl rfl

theorem step_kept {s t : State} (h : step s = .next t) : Kept s.bare t.bare := by
  rcases step_moves_or_effect h with hmoves | ⟨i, -, heffect⟩
  · exact hmoves.kept
  · exact heffect.kept

/-- `MISS` changes only in a step that presents a tick. -/
theorem step_miss {s t : State} (h : step s = .next t) :
    t.miss = s.miss ∨ (Presents .evtLine s ∧ t.miss = (s.miss || s.tickPend)) := by
  rcases step_moves_or_effect h with hmoves | ⟨i, hpres, heffect⟩
  · exact .inl hmoves.miss
  · rcases heffect.miss with heq | ⟨rfl, heq⟩
    · exact .inl heq
    · exact .inr ⟨hpres, heq⟩

/-- Settles O47: what moves and effects keep, and the one effect that sets `MISS`. -/
theorem stickyBitsAndParameters : Obligations.StickyBitsAndParameters := by
  intro s t h
  obtain ⟨hcfg, hovr, hout⟩ := step_kept h
  refine ⟨hcfg, hovr, fun hs => ?_, fun ht => ?_, hout, step_turns h⟩
  · rcases step_miss h with heq | ⟨-, heq⟩ <;> simp [heq, hs]
  · rcases step_miss h with heq | ⟨hpres, heq⟩
    · exact .inl (heq ▸ ht)
    · obtain ⟨ts, hts⟩ := List.head?_eq_some_iff.1 (presents_head rfl hpres)
      rw [heq, Bool.or_eq_true] at ht
      exact ht.imp_right fun htick => ⟨htick, ts, hts⟩

/-! ## Who owns a buffer (rules R71 to R74, R285 to R287) -/

theorem isMicro_of_isCommand {i : Instr} (h : isCommand i = true) : isMicro i = false := by
  cases i <;> first | rfl | cases h

theorem not_isRunWord_of_isCommand {i : Instr} (h : isCommand i = true) : ¬isRunWord i := by
  rintro (⟨a, rfl⟩ | ⟨a, rfl⟩ | rfl) <;> simp [isCommand, encode] at h

/-- A command answers, or has its effect. -/
theorem command_effect {i : Instr} {s t : State} (hi : isCommand i = true) (h : exec i s = .next t) :
    ∃ u c d, t = u.respond c d ∧ (u = s ∨ Effect i s u) :=
  exec_command_cases (isMicro_of_isCommand hi) (not_isRunWord_of_isCommand hi) h

theorem Move.txbins {a : Agent} {s t : State} (h : Move a s t) : t.txbins = s.txbins := by
  cases a with
  | fft => rw [h.fft_frame]
  | str | lnk | snk => cases h <;> rfl

theorem Effect.txbins_of_busy {i : Instr} {s t : State} (h : Effect i s t) (hbusy : s.strPh ≠ .idle) :
    t.txbins = s.txbins := by
  cases h with
  | strWrb hidle => exact absurd hidle hbusy
  | fftLds | fftStart | strSend | strSetfr | snkRstcnt | snkWrfb | evtLine => rfl

/-- A full frame is not written: the Receiver is not inside a chunk. -/
theorem Move.rxbins_of_full {a : Agent} {s t : State} (hok : MachineOk s) (hcnt : s.rxcnt = 32) (h : Move a s t) :
    t.rxcnt = 32 ∧ t.rxbins = s.rxbins := by
  have hfull : ¬s.rxcnt.toNat < 32 := by rw [hcnt]; decide
  cases a with
  | fft => rw [h.fft_frame]; exact ⟨hcnt, rfl⟩
  | str | lnk => cases h <;> exact ⟨hcnt, rfl⟩
  | snk =>
    cases h with
    | rd0 hph => exact absurd (hok.receiver.at_rrd0 hph) hfull
    | rdn hph | rdnLast hph => exact absurd (hok.receiver.at_rrdn hph).1 hfull
    | syncon | count | syncoff | emit | emitLast | accept | decline | rdyoff => exact ⟨hcnt, rfl⟩

theorem Effect.rxbins {i : Instr} {s t : State} (h : Effect i s t) : t.rxbins = s.rxbins := by
  cases h <;> rfl

/-- Settles O48: no move writes `TXBINS`, a byte is taken only below 32, and each command's effect has its unit idle. -/
theorem ownershipGates : Obligations.OwnershipGates := by
  refine ⟨fun i s t hi hbusy h => ?_, fun s t hbusy h => ?_, fun s t hok hcnt h => ?_, fun i s t hi hbusy h => ?_⟩
  · obtain ⟨u, c, d, rfl, rfl | heffect⟩ := command_effect hi h
    · exact ⟨rfl, rfl, rfl⟩
    · cases heffect with
      | fftLds hidle | fftStart hidle => exact absurd hidle hbusy
      | strWrb | strSend | strSetfr | snkRstcnt | snkWrfb | evtLine => exact ⟨rfl, rfl, rfl⟩
  · rcases step_moves_or_effect h with hmoves | ⟨i, -, heffect⟩
    · have htx := hmoves.keeps (P := fun u => u.txbins = s.txbins) (fun _ _ _ hu hmove => hmove.txbins.trans hu) rfl
      exact htx
    · exact heffect.txbins_of_busy hbusy
  · rcases step_moves_or_effect h with hmoves | ⟨i, -, heffect⟩
    · have hboth := hmoves.keeps_of_ok (P := fun u => u.rxcnt = 32 ∧ u.rxbins = s.rxbins)
        (fun _ _ _ hu ⟨hfull, heq⟩ hmove => (hmove.rxbins_of_full hu hfull).imp_right (·.trans heq)) hok.bare
        ⟨hcnt, rfl⟩
      exact hboth.2
    · exact heffect.rxbins
  · obtain ⟨u, c, d, rfl, rfl | heffect⟩ := command_effect hi h
    · exact ⟨rfl, rfl, rfl⟩
    · cases heffect with
      | snkRstcnt hidle | snkWrfb hidle => exact absurd hidle hbusy
      | fftLds | fftStart | strWrb | strSend | strSetfr | evtLine => exact ⟨rfl, rfl, rfl⟩

/-! ## The stall after a lost byte (rules R189, R244, R283) -/

theorem BothStalled.disabled {s : State} (h : BothStalled s) :
    agentEnabled .str s = false ∧ agentEnabled .lnk s = false ∧ agentEnabled .snk s = false := by
  obtain ⟨hsnk, hq, hthr, htsr, hstr, hrr⟩ := h
  refine ⟨?_, ?_, ?_⟩
  · simp [Bool.eq_false_iff, agentEnabled_str, hstr, hrr]
  · simp [Bool.eq_false_iff, agentEnabled_lnk, hthr, htsr]
  · rw [agentEnabled_snk, hsnk]
    simp [rxc, hq]

/-- Only the FFT sequencer moves while both nodes are stalled. -/
theorem Move.keeps_stall {a : Agent} {s t : State} (h : BothStalled s) (hmove : Move a s t) :
    BothStalled t ∧ t.out = s.out ∧ t.rxcnt = s.rxcnt := by
  obtain ⟨hstr, hlnk, hsnk⟩ := h.disabled
  have he := hmove.enabled
  cases a with
  | fft => rw [hmove.fft_frame]; exact ⟨h, rfl, rfl⟩
  | str => simp [hstr] at he
  | snk => simp [hsnk] at he
  | lnk => simp [hlnk] at he

/-- The commands that change the stalled units are refused, since these are busy. -/
theorem Effect.keeps_stall {i : Instr} {s t : State} (heffect : Effect i s t) (h : BothStalled s) :
    BothStalled t ∧ t.out = s.out ∧ t.rxcnt = s.rxcnt := by
  have hsnk : s.snkPh ≠ .idle := by simp [h.1]
  have hstr : s.strPh ≠ .idle := by simp [h.2.2.2.2.1]
  cases heffect with
  | strSend hidle | strWrb hidle => exact absurd hidle hstr
  | snkRstcnt hidle | snkWrfb hidle => exact absurd hidle hsnk
  | fftLds | fftStart | strSetfr | evtLine => exact ⟨h, rfl, rfl⟩

/-- Inside an invocation a word of the sink unit is refused (rules R194, R242). -/
theorem expectedCode_of_sink_word {s : State} {w : PortWord} (hbusy : s.snkPh ≠ .idle) (hu : unitField w = 3) :
    expectedCode w s = .nakBusy ∨ expectedCode w s = .nakArg := by
  cases hdec : decode (.word w) with
  | error why => exact .inr (expectedCode_of_reject hdec s)
  | ok i =>
    have hplace := standsAt_of_decode_word hdec
    rw [hu] at hplace
    have hrefused : refusedBusy i s = true := by
      cases i <;> simp [StandsAt, Laws.tablePlace] at hplace <;> simpa [refusedBusy] using hbusy
    rw [expectedCode_of_decode hdec, answerCode, hrefused]
    split
    · exact .inr rfl
    · exact .inl rfl

/-- Settles O56: no agent of the two nodes is enabled, and no accepted command reaches them. -/
theorem lostByteStallsBothNodes : Obligations.LostByteStallsBothNodes := by
  refine ⟨fun s t h hstep => ?_, fun s h => h.disabled, fun s w h => expectedCode_of_sink_word (by simp [h.1])⟩
  rcases step_moves_or_effect hstep with hmoves | ⟨i, -, heffect⟩
  · have hkept := hmoves.keeps (P := fun u => BothStalled u ∧ u.out = s.out ∧ u.rxcnt = s.rxcnt)
      (fun a u v ⟨hu, hout, hcnt⟩ hmove =>
        have ⟨hv, hout', hcnt'⟩ := hmove.keeps_stall hu
        ⟨hv, hout'.trans hout, hcnt'.trans hcnt⟩) ⟨h, rfl, rfl⟩
    exact hkept
  · have hkept := heffect.keeps_stall h
    exact hkept

end Sys2Proof.Machine
end

section
/-! PROOFS. The FFT sequencer's steps commute with every operation outside the unit (statement
FftStepsCommuteWithOtherUnits). A change of the unit's fields is invisible to those operations, the sequencer's step is
such a change, and it depends on nothing but the unit's fields and the parameters. -/

namespace Sys2Proof.Machine

/-! ## The change of the FFT unit's fields (rules R21 to R27) -/

/-- The FFT unit's fields taken from another state. -/
def setFft (v s : State) : State :=
  { s with
    fr := v.fr, fi := v.fi, fftPh := v.fftPh, fftDone := v.fftDone, regS := v.regS, regM := v.regM, regI := v.regI }

theorem setFft_self (s : State) : setFft s s = s := rfl

theorem Move.eq_setFft {s u : State} (h : Move .fft s u) : u = setFft u s := h.fft_frame

theorem setFft_commute_pushAdvance (v : State) : Function.Commute pushAdvance (setFft v) := fun s => by
  simp only [pushAdvance, apply_ite (setFft v)]
  rfl

theorem setFft_commute_emitAdvance (v : State) : Function.Commute emitAdvance (setFft v) := fun s => by
  simp only [emitAdvance, apply_ite (setFft v)]
  rfl

theorem setFft_commute_arrive (v : State) (x : Byte) : Function.Commute (arrive x) (setFft v) := fun s => by
  simp only [arrive, apply_ite (setFft v)]
  rfl

/-! ## Shared operations under a change -/

theorem commutesWith_ackWith {f g : State → State} {d : State → Word} (hd : ∀ s, d (f s) = d s)
    (hf : ∀ c e, Function.Commute (fun s => State.respond s c e) f) (hg : Function.Commute g f) :
    CommutesWith f fun s => ackWith (d s) (g s) := fun s => by
  simp only [ackWith, hd, andThen_next, Host.Outcome.next.injEq]
  rw [hg s]
  exact hf _ _ _

theorem commutesWith_raiseNak {f : State → State} (c : RespCode)
    (hf : ∀ c e, Function.Commute (fun s => State.respond s c e) f) : CommutesWith f (raiseNak c) :=
  commutesWith_next (g := fun s => s.respond c 0) (hf c 0)

theorem commutesWith_ite {f : State → State} {p : State → Prop} [DecidablePred p] {go other : State → Result}
    (hp : ∀ s, p (f s) ↔ p s) (hgo : CommutesWith f go) (hother : CommutesWith f other) :
    CommutesWith f fun s => if p s then go s else other s := fun s => by
  simp only [hp]
  split
  · exact hgo s
  · exact hother s

theorem setFft_commute_respond (v : State) (c : RespCode) (e : Word) :
    Function.Commute (fun s => State.respond s c e) (setFft v) := fun _ => rfl

theorem setFft_commutesWith_ackWith (v : State) {g : State → State} {d : State → Word}
    (hd : ∀ s, d (setFft v s) = d s) (hg : Function.Commute g (setFft v)) :
    CommutesWith (setFft v) fun s => ackWith (d s) (g s) :=
  commutesWith_ackWith hd (setFft_commute_respond v) hg

theorem setFft_commutesWith_unlessBusy {v : State} {busy : State → Bool} {go : State → Result}
    (hbusy : ∀ s, busy (setFft v s) = busy s) (hgo : CommutesWith (setFft v) go) :
    CommutesWith (setFft v) fun s => unlessBusy (busy s) s (go s) :=
  commutesWith_ite (p := fun s => busy s = true) (fun s => by rw [hbusy s])
    (commutesWith_raiseNak .nakBusy (setFft_commute_respond v)) hgo

theorem setFft_commutesWith_withFbAddr {v : State} (addr : BitVec 16) {go : State → Result}
    (hgo : CommutesWith (setFft v) go) : CommutesWith (setFft v) fun s => withFbAddr addr s (go s) :=
  commutesWith_ite (p := fun s => addr.toNat < s.cfg.fbSize) (fun _ => Iff.rfl) hgo
    (commutesWith_raiseNak .nakArg (setFft_commute_respond v))

theorem setFft_commutesWith_takeByte {v : State} {go : State → Result} (hgo : CommutesWith (setFft v) go) :
    CommutesWith (setFft v) fun s => takeByte s go := fun s => by
  cases hq : s.rxq with
  | nil => simp only [takeByte_of_empty hq, takeByte_of_empty (s := setFft v s) hq, andThen_next]
  | cons x rest =>
    have htake : CommutesWith (setFft v) fun t =>
        requireCells t.cfg [(.rxbins, t.rxcnt.toNat)] (go (byteTaken x rest t)) :=
      commutesWith_requireCells (fun _ => rfl) (fun _ => rfl) fun t => hgo (byteTaken x rest t)
    simp only [takeByte_of_queued hq, takeByte_of_queued (s := setFft v s) hq]
    exact htake s

/-! ## The operations outside the unit -/

theorem setFft_commutesWith_strPush (v : State) : CommutesWith (setFft v) (exec .strPush) :=
  commutesWith_whenEnabled (fun _ => rfl) <| commutesWith_requireCells (fun _ => rfl) (fun _ => rfl) <|
    commutesWith_next fun s => setFft_commute_pushAdvance v { s with thr := some (s.txbins.read (pushIndex s)) }

theorem setFft_commutesWith_lnkXfer (v : State) : CommutesWith (setFft v) (exec .lnkXfer) := fun s => by
  cases htsr : s.tsr with
  | none => rw [exec_lnkXfer_of_empty htsr, exec_lnkXfer_of_empty (s := setFft v s) htsr, andThen_next]
  | some x =>
    rw [exec_lnkXfer_of_byte htsr, exec_lnkXfer_of_byte (s := setFft v s) htsr, setFft_commute_arrive v x s]
    rfl

theorem setFft_commutesWith_rasEmit (v : State) : CommutesWith (setFft v) (exec .rasEmit) := by
  have hsend : CommutesWith (setFft v) fun s =>
      requireCells s.cfg [(.fb, emitIndex s)] (.next (emitAdvance (s.shiftOut (s.fb.read (emitIndex s))))) :=
    commutesWith_requireCells (fun _ => rfl) (fun _ => rfl)
      (commutesWith_next fun s => setFft_commute_emitAdvance v (s.shiftOut (s.fb.read (emitIndex s))))
  exact commutesWith_whenEnabled (fun _ => rfl)
    (commutesWith_ite (p := fun s => s.line.toNat < s.cfg.visTop) (fun _ => Iff.rfl) (fun _ => rfl) hsend)

theorem setFft_commutesWith_rcvPoll (v : State) : CommutesWith (setFft v) (exec .rcvPoll) :=
  commutesWith_whenEnabled (fun _ => rfl) <| commutesWith_next fun s => by
    simp only [apply_ite (setFft v)]
    rfl

theorem setFft_commutesWith_rcvRdn (v : State) : CommutesWith (setFft v) (exec .rcvRdn) :=
  commutesWith_whenEnabled (fun _ => rfl) <| setFft_commutesWith_takeByte <| commutesWith_next fun s => by
    simp only [apply_ite (setFft v)]
    rfl

/-- An operation of the other units, or EVT.LINE. -/
def outsideFft (i : Instr) : Prop :=
  (isMicro i = true ∨ isCommand i = true ∨ i = .evtLine) ∧ (∀ c, encode i ≠ .phase .fftPh c) ∧
    ∀ w, encode i = .word w → unitField w ≠ 1

/-- No operation outside the FFT unit reads or writes its fields. -/
theorem setFft_commutesWith_exec (v : State) {i : Instr} (hi : outsideFft i) : CommutesWith (setFft v) (exec i) := by
  obtain ⟨hkind, hphase, hunit⟩ := hi
  cases i with
  | strWaitrr | strFin | lnkLoad | rasSyncon | rasCount | rasSyncoff | rcvRdyoff =>
    exact commutesWith_whenEnabled (fun _ => rfl) (commutesWith_next fun _ => rfl)
  | rcvRd0 =>
    exact commutesWith_whenEnabled (fun _ => rfl) (setFft_commutesWith_takeByte (commutesWith_next fun _ => rfl))
  | strPush => exact setFft_commutesWith_strPush v
  | rasEmit => exact setFft_commutesWith_rasEmit v
  | rcvPoll => exact setFft_commutesWith_rcvPoll v
  | rcvRdn => exact setFft_commutesWith_rcvRdn v
  | lnkXfer => exact setFft_commutesWith_lnkXfer v
  | strStat | strSetfr | strRdb | evtLine => exact setFft_commutesWith_ackWith v (fun _ => rfl) fun _ => rfl
  | strWrb | strSend | snkStat | snkRdb | snkRdline =>
    exact setFft_commutesWith_unlessBusy (fun _ => rfl) (setFft_commutesWith_ackWith v (fun _ => rfl) fun _ => rfl)
  | snkRstcnt =>
    exact setFft_commutesWith_unlessBusy (fun _ => rfl) <|
      commutesWith_ite (p := fun s => full s = true) (fun _ => Iff.rfl)
        (setFft_commutesWith_ackWith v (fun _ => rfl) fun _ => rfl)
        (commutesWith_raiseNak .nakState (setFft_commute_respond v))
  | snkWrfb addr | snkRdfb addr =>
    exact setFft_commutesWith_withFbAddr addr <| setFft_commutesWith_unlessBusy (fun _ => rfl) <|
      setFft_commutesWith_ackWith v (fun _ => rfl) fun _ => rfl
  | fftSwap | fftBfly => exact absurd rfl (hphase _)
  | fftStat | fftLds | fftStart | fftRdr | fftRdi | fftRds => exact absurd (by simp) (hunit _ rfl)
  | evtStep | evtRun | evtSettle => simp [isMicro, isCommand, encode] at hkind

/-! ## The sequencer's step depends on its unit and the parameters -/

/-- What the sequencer does in one state it does in every state with the same parameters and unit. -/
theorem stepFft_setFft {s u x : State} (hcfg : x.cfg = s.cfg) (h : stepFft s = .next u) :
    stepFft (setFft s x) = .next (setFft u x) := by
  have hph : (setFft s x).fftPh = s.fftPh := rfl
  unfold stepFft at h ⊢
  rw [hph]
  cases hphase : s.fftPh with
  | idle =>
    rw [hphase] at h
    injection h with h
    rw [← h]
    rfl
  | reorder =>
    rw [hphase] at h
    have hen : swapEnabled s = true := by simp [swapEnabled, hphase]
    have hen' : swapEnabled (setFft s x) = true := hen
    simp only [execFftSwap, hen, hen', whenEnabled, if_true, Host.Outcome.next.injEq] at h ⊢
    rw [← h]
    simp only [swapAdvance, apply_ite (fun y => setFft y x)]
    rfl
  | bfly =>
    rw [hphase] at h
    have hen : bflyEnabled s = true := by simp [bflyEnabled, hphase]
    have hen' : bflyEnabled (setFft s x) = true := hen
    simp only [execFftBfly, hen, hen', whenEnabled, if_true, requireCells_eq_next] at h ⊢
    obtain ⟨hcells, h⟩ := h
    refine ⟨?_, ?_⟩
    · have hx : (setFft s x).cfg = s.cfg := hcfg
      rw [hx]
      exact hcells
    · injection h with h
      have hbfly : bflyCells (setFft s x) = setFft (bflyCells s) x := by
        simp only [bflyCells, setFft, hcfg]
      rw [← h, hbfly]
      simp only [bflyAdvance, apply_ite (fun y => setFft y x)]
      rfl

/-- The FFT sequencer's step is a change of its unit. -/
theorem stepFft_eq_setFft {s u : State} (h : stepAgent .fft s = .next u) : u = setFft u s := by
  by_cases he : agentEnabled .fft s = true
  · exact (stepAgent_move he h).eq_setFft
  · rw [stepAgent_of_disabled (by simpa using he)] at h
    injection h with h
    rw [← h, setFft_self]

theorem exec_cfg {i : Instr} {s t : State} (hi : outsideFft i) (h : exec i s = .next t) : t.cfg = s.cfg := by
  have hsingle := exec_single_cases (i := i) (by rintro a rfl; simp [outsideFft, isMicro, isCommand, encode] at hi)
    (by rintro rfl; simp [outsideFft, isMicro, isCommand, encode] at hi) h
  rcases hsingle with heq | ⟨a, -, hmove⟩ | heffect
  · exact (congrArg State.cfg heq :)
  · exact hmove.kept.cfg
  · exact heffect.kept.cfg

/-- Settles O49: both orders lead to the other operation's state with the unit's fields of the sequencer's step. -/
theorem fftStepsCommuteWithOtherUnits : Obligations.FftStepsCommuteWithOtherUnits := by
  intro i s t u hkind hphase hunit ht hu
  have hi : outsideFft i := ⟨hkind, hphase, hunit⟩
  have hafter : exec i (setFft u s) = .next (setFft u t) := (setFft_commutesWith_exec u hi).eq_next ht
  have hsame : t = setFft s t := by
    have hself := (setFft_commutesWith_exec s hi).eq_next ht
    rw [setFft_self, ht] at hself
    injection hself
  have hstep : stepFft (setFft s t) = .next (setFft u t) := stepFft_setFft (exec_cfg hi ht) hu
  refine ⟨setFft u t, ?_, ?_⟩
  · rw [stepFft_eq_setFft hu]
    exact hafter
  · rw [hsame]
    exact hstep

end Sys2Proof.Machine
end

section
/-! PROOFS. The fixed-point multiply and conversions and the sine table (statements MulfixIsBits23To8,
FixedPointRoundTrip and SineTableProperties). A pattern whose exact value fits reads as that value; conversion
truncates, which is the floor of a number that is not negative and the ceiling of one that is. -/

namespace Sys2Proof.Machine

/-! ## Patterns of numbers that fit (rule R15) -/

theorem sint16_bounds (a : Word) : -32768 ≤ sint16 a ∧ sint16 a < 32768 := ⟨BitVec.le_toInt a, BitVec.toInt_lt⟩

/-- A number in the range of the two's-complement reading survives the wrap. -/
theorem sint16_wrap16 {v : Int} (hlo : -32768 ≤ v) (hhi : v < 32768) : sint16 (wrap16 v) = v := by
  rw [sint16, wrap16, BitVec.toInt_ofInt]
  exact Int.bmod_eq_of_le hlo hhi

/-! ## The multiply (rule R111) -/

/-- The signed product of two words fits 32 bits. -/
theorem sint16_mul_bounds (a b : Word) : -2 ^ 30 + 2 ^ 15 ≤ sint16 a * sint16 b ∧ sint16 a * sint16 b ≤ 2 ^ 30 := by
  obtain ⟨ha, ha'⟩ := sint16_bounds a
  obtain ⟨hb, hb'⟩ := sint16_bounds b
  constructor
  · rcases le_total 0 (sint16 a) with h | h <;> nlinarith
  · rcases le_total 0 (sint16 a) with h | h <;> nlinarith

theorem toInt_signExtend_mul (a b : Word) : (a.signExtend 32 * b.signExtend 32).toInt = sint16 a * sint16 b := by
  obtain ⟨hlo, hhi⟩ := sint16_mul_bounds a b
  rw [BitVec.toInt_mul, BitVec.toInt_signExtend_of_le (by decide), BitVec.toInt_signExtend_of_le (by decide)]
  change (sint16 a * sint16 b).bmod (2 ^ 32) = _
  exact Int.bmod_eq_of_le (by omega) (by omega)

/-- Division by 256 toward minus infinity drops the low eight bits. -/
theorem wrap16_div_256 (x : BitVec 32) : wrap16 (x.toInt / 256) = x.extractLsb' 8 16 := by
  apply BitVec.eq_of_toNat_eq
  rw [wrap16, BitVec.toNat_ofInt, BitVec.extractLsb'_toNat, Nat.shiftRight_eq_div_pow, BitVec.toInt_eq_toNat_cond]
  split <;> omega

theorem mulfixDefault_eq_bits (a b : Word) :
    mulfixDefault a b = (a.signExtend 32 * b.signExtend 32).extractLsb' 8 16 := by
  rw [mulfixDefault, ← toInt_signExtend_mul, wrap16_div_256]

theorem mulfixDefault_eq_floor (a b : Word) : mulfixDefault a b = wrap16 ⌊(sint16 a * sint16 b : ℚ) / 256⌋ := by
  rw [mulfixDefault, ← Int.cast_mul]
  exact congrArg wrap16 (Rat.floor_intCast_div_natCast (sint16 a * sint16 b) 256).symm

theorem mulfixDefault_comm (a b : Word) : mulfixDefault a b = mulfixDefault b a := by
  rw [mulfixDefault, mulfixDefault, Int.mul_comm]

theorem mulfixDefault_one (x : Word) : mulfixDefault 0x0100 x = x := by
  have hone : 256 * sint16 x / 256 = sint16 x := by omega
  rw [mulfixDefault, show sint16 0x0100 = 256 from rfl, hone, wrap16_sint16]

theorem mulfixDefault_half_eq_floor (x : Word) : mulfixDefault 0x0080 x = wrap16 ⌊(sint16 x : ℚ) / 2⌋ := by
  rw [← sint16_asr1_eq_floor, wrap16_sint16]
  exact mulfixDefault_half x

/-! ## The multiply as a parameter (rule R13) -/

theorem mulfix_named_point (c : Config) (a b v : Word) :
    mulfix { c with mulPoints := ((a, b), v) :: c.mulPoints } a b = v := by
  simp [mulfix]

theorem mulfix_other_point (c : Config) {a b x y : Word} (v : Word) (h : (x, y) ≠ (a, b)) :
    mulfix { c with mulPoints := ((a, b), v) :: c.mulPoints } x y = mulfix c x y := by
  simp only [mulfix, List.lookup_cons, beq_false_of_ne h]

/-- Settles O33: a parameter set without points has the default multiply, of which each law is a lemma. -/
theorem mulfixIsBits23To8 : Obligations.MulfixIsBits23To8 := by
  refine ⟨fun c hc => ?_, mulfix_named_point, fun c a b v x y => mulfix_other_point c v, rfl⟩
  simp only [mulfix_of_no_points hc]
  refine ⟨mulfixDefault_eq_bits, fun a b => ⟨(sint16_mul_bounds a b).1, (sint16_mul_bounds a b).2, ?_⟩,
    mulfixDefault_comm, fun x => ⟨mulfixDefault_one x, mulfixDefault_zero_left x, mulfixDefault_half_eq_floor x⟩, ?_⟩
  · exact mulfixDefault_eq_floor a b
  · decide

/-! ## Conversion (rule R115) -/

/-- Dropping the fraction toward zero. -/
theorem tdiv_num_den (q : ℚ) : Int.tdiv q.num q.den = if 0 ≤ q then ⌊q⌋ else ⌈q⌉ := by
  split
  · rename_i h
    rw [Rat.floor_def', Int.tdiv_eq_ediv_of_nonneg (Rat.num_nonneg.2 h)]
  · rename_i h
    have hneg : 0 ≤ -q.num := by
      have hnum : q.num < 0 := Rat.num_neg.2 (not_le.1 h)
      omega
    rw [Rat.ceil_def', ← Int.tdiv_eq_ediv_of_nonneg hneg, Int.neg_tdiv, Int.neg_neg]

/-- The truncated number is in the range of its argument and less than one away. -/
theorem tdiv_num_den_bounds {q : ℚ} (hlo : -32768 ≤ q) (hhi : q < 32768) :
    -32768 ≤ Int.tdiv q.num q.den ∧ Int.tdiv q.num q.den < 32768 ∧ |(Int.tdiv q.num q.den : ℚ) - q| < 1 := by
  rw [tdiv_num_den]
  split
  · rename_i h
    have hle := Int.floor_le q
    have hlt := Int.lt_floor_add_one q
    refine ⟨?_, ?_, abs_lt.2 ⟨by linarith, by linarith⟩⟩
    · exact le_trans (by decide) (Int.floor_nonneg.2 h)
    · exact Int.floor_lt.2 (by exact_mod_cast hhi)
  · rename_i h
    have hge := Int.le_ceil q
    have hlt := Int.ceil_lt_add_one q
    refine ⟨?_, ?_, abs_lt.2 ⟨by linarith, by linarith⟩⟩
    · exact_mod_cast hlo.trans hge
    · exact lt_of_le_of_lt (Int.ceil_le.2 (by exact_mod_cast (not_le.1 h).le)) (by decide : (0 : Int) < 32768)

theorem abs_unfix_fix_sub_lt {r : ℚ} (hlo : -128 ≤ r) (hhi : r < 128) : |unfix (Machine.fix r) - r| < 1 / 256 := by
  obtain ⟨htlo, hthi, hnear⟩ := tdiv_num_den_bounds (q := r * 256) (by linarith) (by linarith)
  rw [unfix, Machine.fix, sint16_wrap16 htlo hthi]
  rw [abs_lt] at hnear ⊢
  constructor <;> linarith

theorem fix_unfix (w : Word) : Machine.fix (unfix w) = w := by
  have hscaled : unfix w * 256 = (sint16 w : ℚ) := by
    rw [unfix]
    ring
  rw [Machine.fix, hscaled, Rat.num_intCast, Rat.den_intCast, Nat.cast_one, Int.tdiv_one, wrap16_sint16]

/-- Settles O36: the truncated multiple is in range and less than one from the exact one. -/
theorem fixedPointRoundTrip : Obligations.FixedPointRoundTrip :=
  ⟨fun _ => abs_unfix_fix_sub_lt, fix_unfix, fun _ => rfl⟩

/-! ## The sine table (rules R24, R116, R118) -/

/-- The twiddle factor has magnitude at most one half: checked for the 64 angle indices. -/
theorem twiddle_magnitude {a : Nat} (ha : a < 64) :
    sint16 (twiddleRe Config.default a) ^ 2 + sint16 (twiddleIm Config.default a) ^ 2 ≤ 128 ^ 2 := by
  have hall : ∀ a < 64, sint16 (twiddleRe Config.default a) * sint16 (twiddleRe Config.default a) +
      sint16 (twiddleIm Config.default a) * sint16 (twiddleIm Config.default a) ≤ 128 * 128 := by decide +kernel
  simpa only [sq] using hall a ha

/-- Settles O37: the table's entries by evaluation; the twiddle factors are its entries by definition. -/
theorem sineTableProperties : Obligations.SineTableProperties := by
  refine ⟨rfl, rfl, rfl, rfl, rfl, by decide +kernel, by decide +kernel, fun a _ => ⟨rfl, rfl⟩,
    fun a ha => twiddle_magnitude ha, rfl, rfl, rfl, rfl⟩

end Sys2Proof.Machine
end

section
/-! PROOFS. The butterfly's growth and exactness (statements ButterflyMagnitudeBound and
TransformOfRealSamplesNeverWraps). The exact butterfly is `x/2 ± w*y/256` with `|w|` at most 128, which does not lengthen;
the three roundings add an error of length below 3. Stage by stage the bound on the cells grows by 3, since the butterflies
of a stage have disjoint cells. -/

namespace Sys2Proof.Machine

/-! ## Rounding errors in the plane (rule R116) -/

/-- The complex number of a pair of integers. -/
def gaussian (a b : Int) : ℂ := ⟨a, b⟩

theorem norm_le_iff_sq_le {z : ℂ} {r : ℝ} (hr : 0 ≤ r) : ‖z‖ ≤ r ↔ z.re ^ 2 + z.im ^ 2 ≤ r ^ 2 := by
  rw [← sq_le_sq₀ (norm_nonneg z) hr, Complex.sq_norm, Complex.normSq_apply, sq z.re, sq z.im]

theorem norm_gaussian_le_iff {a b : Int} {r : Nat} : ‖gaussian a b‖ ≤ r ↔ a ^ 2 + b ^ 2 ≤ (r : Int) ^ 2 := by
  rw [norm_le_iff_sq_le (Nat.cast_nonneg r)]
  simp only [gaussian]
  exact_mod_cast Iff.rfl

/-- An integer quotient is at most one below the exact one. -/
theorem cast_ediv_bounds (v : Int) {k : Int} (hk : 0 < k) : (v : ℝ) / k - 1 < ((v / k : Int) : ℝ) ∧
    ((v / k : Int) : ℝ) ≤ (v : ℝ) / k := by
  have hkr : (0 : ℝ) < k := by exact_mod_cast hk
  have hle : (v / k) * k ≤ v := Int.ediv_mul_le v hk.ne'
  have hlt : v < (v / k) * k + k := Int.lt_ediv_add_one_mul_self v hk |>.trans_eq (by ring)
  have hle' : ((v / k : Int) : ℝ) * k ≤ v := by exact_mod_cast hle
  have hlt' : (v : ℝ) < ((v / k : Int) : ℝ) * k + k := by exact_mod_cast hlt
  constructor
  · rw [sub_lt_iff_lt_add, div_lt_iff₀ hkr]
    linarith
  · rwa [le_div_iff₀ hkr]

/-- Halving an integer loses nothing or one half. -/
theorem cast_half_bounds (v : Int) : (v : ℝ) / 2 - 1 / 2 ≤ ((v / 2 : Int) : ℝ) ∧ ((v / 2 : Int) : ℝ) ≤ (v : ℝ) / 2 := by
  have hlo : v ≤ 2 * (v / 2) + 1 := by omega
  have hhi : 2 * (v / 2) ≤ v := by omega
  have hlo' : (v : ℝ) ≤ 2 * ((v / 2 : Int) : ℝ) + 1 := by exact_mod_cast hlo
  have hhi' : 2 * ((v / 2 : Int) : ℝ) ≤ v := by exact_mod_cast hhi
  constructor <;> linarith

/-- The exact butterfly, before any rounding, does not lengthen. -/
theorem norm_exact_butterfly_le {X Y W : ℂ} {R : ℝ} (hX : ‖X‖ ≤ R) (hY : ‖Y‖ ≤ R) (hW : ‖W‖ ≤ 128) :
    ‖X / 2 + W * Y / 256‖ ≤ R := by
  have hprod : ‖W‖ * ‖Y‖ ≤ 128 * R := mul_le_mul hW hY (norm_nonneg Y) (by norm_num)
  calc ‖X / 2 + W * Y / 256‖ ≤ ‖X / 2‖ + ‖W * Y / 256‖ := norm_add_le ..
    _ = ‖X‖ / 2 + ‖W‖ * ‖Y‖ / 256 := by simp
    _ ≤ R := by linarith

/-- A point within the rounding error of the exact butterfly is at most 3 further out. -/
theorem norm_rounded_le {Z E : ℂ} {R : ℝ} (hE : ‖E‖ ≤ R) (hre : |Z.re - E.re| ≤ 3 / 2) (him : |Z.im - E.im| ≤ 5 / 2) :
    ‖Z‖ ≤ R + 3 := by
  have hdiff : ‖Z - E‖ ≤ 3 := by
    rw [norm_le_iff_sq_le (by norm_num), Complex.sub_re, Complex.sub_im]
    have h1 := sq_le_sq' (abs_le.1 hre).1 (abs_le.1 hre).2
    have h2 := sq_le_sq' (abs_le.1 him).1 (abs_le.1 him).2
    linarith
  calc ‖Z‖ = ‖E + (Z - E)‖ := by rw [add_sub_cancel]
    _ ≤ ‖E‖ + ‖Z - E‖ := norm_add_le ..
    _ ≤ R + 3 := add_le_add hE hdiff

/-! ## The butterfly on exact integers (rule R127) -/

/-- `tr` and `ti` before wrapping. -/
def exactRe (wr wi yr yi : Int) : Int := wr * yr / 256 - wi * yi / 256
def exactIm (wr wi yr yi : Int) : Int := wr * yi / 256 + wi * yr / 256

theorem butterfly_grows_by_three {xr xi yr yi wr wi : Int} {R : Nat} (hx : xr ^ 2 + xi ^ 2 ≤ (R : Int) ^ 2)
    (hy : yr ^ 2 + yi ^ 2 ≤ (R : Int) ^ 2) (hw : wr ^ 2 + wi ^ 2 ≤ 128 ^ 2) :
    (xr / 2 + exactRe wr wi yr yi) ^ 2 + (xi / 2 + exactIm wr wi yr yi) ^ 2 ≤ ((R : Int) + 3) ^ 2 ∧
    (xr / 2 - exactRe wr wi yr yi) ^ 2 + (xi / 2 - exactIm wr wi yr yi) ^ 2 ≤ ((R : Int) + 3) ^ 2 := by
  have hX := norm_gaussian_le_iff.2 hx
  have hY := norm_gaussian_le_iff.2 hy
  have hW : ‖gaussian wr wi‖ ≤ 128 := by exact_mod_cast norm_gaussian_le_iff (r := 128).2 (by exact_mod_cast hw)
  have hplus := norm_exact_butterfly_le hX hY hW
  have hminus := norm_exact_butterfly_le hX hY (W := -gaussian wr wi) (by rwa [norm_neg])
  obtain ⟨hqr, hqr'⟩ := cast_half_bounds xr
  obtain ⟨hqi, hqi'⟩ := cast_half_bounds xi
  obtain ⟨h1, h1'⟩ := cast_ediv_bounds (wr * yr) (k := 256) (by norm_num)
  obtain ⟨h2, h2'⟩ := cast_ediv_bounds (wi * yi) (k := 256) (by norm_num)
  obtain ⟨h3, h3'⟩ := cast_ediv_bounds (wr * yi) (k := 256) (by norm_num)
  obtain ⟨h4, h4'⟩ := cast_ediv_bounds (wi * yr) (k := 256) (by norm_num)
  push_cast at h1 h1' h2 h2' h3 h3' h4 h4'
  have hcast : ((R : Int) + 3) ^ 2 = ((R + 3 : Nat) : Int) ^ 2 := by push_cast; ring
  rw [hcast, ← norm_gaussian_le_iff, ← norm_gaussian_le_iff]
  push_cast
  refine ⟨norm_rounded_le hplus ?_ ?_, norm_rounded_le hminus ?_ ?_⟩
  all_goals
    simp only [gaussian, exactRe, exactIm, abs_le, Complex.add_re, Complex.add_im, Complex.neg_re, Complex.neg_im,
      Complex.mul_re, Complex.mul_im, Complex.div_ofNat_re, Complex.div_ofNat_im, Int.cast_add, Int.cast_sub]
    constructor <;> linarith

/-! ## Every operation is exact (rule R116) -/

theorem abs_le_of_sq_add_sq_le {a b : Int} {r : Nat} (h : a ^ 2 + b ^ 2 ≤ (r : Int) ^ 2) : -r ≤ a ∧ a ≤ r := by
  have hr : (0 : Int) ≤ r := Int.natCast_nonneg r
  constructor <;> nlinarith [sq_nonneg b]

/-- A scaled product of a twiddle component. -/
theorem scaled_product_bounds {w y : Int} {R : Nat} (hw : -128 ≤ w ∧ w ≤ 128) (hy : -R ≤ y ∧ y ≤ R) :
    -(R : Int) ≤ 2 * (w * y / 256) + 1 ∧ 2 * (w * y / 256) ≤ R := by
  obtain ⟨hw, hw'⟩ := hw
  obtain ⟨hy, hy'⟩ := hy
  have hlo : -(128 * (R : Int)) ≤ w * y := by nlinarith
  have hhi : w * y ≤ 128 * (R : Int) := by nlinarith
  omega

theorem sint16_mulfixDefault {w y : Word} {R : Nat} (hR : R ≤ 32750) (hw : -128 ≤ sint16 w ∧ sint16 w ≤ 128)
    (hy : -R ≤ sint16 y ∧ sint16 y ≤ R) : sint16 (mulfix Config.default w y) = sint16 w * sint16 y / 256 := by
  have hbounds := scaled_product_bounds hw hy
  rw [mulfix_default, mulfixDefault]
  exact sint16_wrap16 (by omega) (by omega)

theorem addExact_of_bounds {a b : Word} (hlo : -32768 ≤ sint16 a + sint16 b) (hhi : sint16 a + sint16 b < 32768) :
    AddExact a b := sint16_wrap16 hlo hhi

theorem subExact_of_bounds {a b : Word} (hlo : -32768 ≤ sint16 a - sint16 b) (hhi : sint16 a - sint16 b < 32768) :
    SubExact a b := sint16_wrap16 hlo hhi

/-- The squared magnitude of a value (rule R116). -/
def sqMag (x : Cplx) : Int := sint16 x.re ^ 2 + sint16 x.im ^ 2

/-- With a twiddle factor of magnitude at most one half, the butterfly is exact and grows by at most 3. -/
theorem butterfly_exact_and_bounded {R : Nat} {w x y : Cplx} (hR : R ≤ 32750) (hw : sqMag w ≤ 128 ^ 2)
    (hx : sqMag x ≤ (R : Int) ^ 2) (hy : sqMag y ≤ (R : Int) ^ 2) :
    ButterflyExact Config.default w x y ∧ sqMag (bflyLow Config.default w x y) ≤ ((R : Int) + 3) ^ 2 ∧
      sqMag (bflyHigh Config.default w x y) ≤ ((R : Int) + 3) ^ 2 := by
  have hwr := abs_le_of_sq_add_sq_le (r := 128) hw
  have hwi := abs_le_of_sq_add_sq_le (r := 128) ((add_comm ..).trans_le hw)
  have hyr := abs_le_of_sq_add_sq_le hy
  have hyi := abs_le_of_sq_add_sq_le ((add_comm ..).trans_le hy)
  have p1 := sint16_mulfixDefault hR hwr hyr
  have p2 := sint16_mulfixDefault hR hwi hyi
  have p3 := sint16_mulfixDefault hR hwr hyi
  have p4 := sint16_mulfixDefault hR hwi hyr
  have b1 := scaled_product_bounds hwr hyr
  have b2 := scaled_product_bounds hwi hyi
  have b3 := scaled_product_bounds hwr hyi
  have b4 := scaled_product_bounds hwi hyr
  have htr : SubExact (mulfix Config.default w.re y.re) (mulfix Config.default w.im y.im) :=
    subExact_of_bounds (by omega) (by omega)
  have hti : AddExact (mulfix Config.default w.re y.im) (mulfix Config.default w.im y.re) :=
    addExact_of_bounds (by omega) (by omega)
  have hre : sint16 (cmul Config.default w y).re = exactRe (sint16 w.re) (sint16 w.im) (sint16 y.re) (sint16 y.im) := by
    rw [cmul, htr, p1, p2, exactRe]
  have him : sint16 (cmul Config.default w y).im = exactIm (sint16 w.re) (sint16 w.im) (sint16 y.re) (sint16 y.im) := by
    rw [cmul, hti, p3, p4, exactIm]
  have hqr : sint16 (chalf x).re = sint16 x.re / 2 := sint16_asr1 x.re
  have hqi : sint16 (chalf x).im = sint16 x.im / 2 := sint16_asr1 x.im
  obtain ⟨hlow, hhigh⟩ := butterfly_grows_by_three hx hy hw
  rw [← hre, ← him, ← hqr, ← hqi] at hlow hhigh
  have hcast : ((R : Int) + 3) ^ 2 = ((R + 3 : Nat) : Int) ^ 2 := by push_cast; rfl
  rw [hcast] at hlow hhigh
  have hlr := abs_le_of_sq_add_sq_le hlow
  have hli := abs_le_of_sq_add_sq_le ((add_comm ..).trans_le hlow)
  have hhr := abs_le_of_sq_add_sq_le hhigh
  have hhi := abs_le_of_sq_add_sq_le ((add_comm ..).trans_le hhigh)
  push_cast at hlr hli hhr hhi
  have hlre : AddExact (chalf x).re (cmul Config.default w y).re := addExact_of_bounds (by omega) (by omega)
  have hlim : AddExact (chalf x).im (cmul Config.default w y).im := addExact_of_bounds (by omega) (by omega)
  have hhre : SubExact (chalf x).re (cmul Config.default w y).re := subExact_of_bounds (by omega) (by omega)
  have hhim : SubExact (chalf x).im (cmul Config.default w y).im := subExact_of_bounds (by omega) (by omega)
  refine ⟨⟨p1, p2, p3, p4, htr, hti, hlre, hlim, hhre, hhim⟩, ?_, ?_⟩
  · rw [sqMag, bflyLow, hlre, hlim, hcast]
    exact hlow
  · rw [sqMag, bflyHigh, hhre, hhim, hcast]
    exact hhigh

/-- Settles O38: the twiddle factors have magnitude at most 128. -/
theorem butterflyMagnitudeBound : Obligations.ButterflyMagnitudeBound := by
  intro a R x y ha hR hx hy w hw
  have hmag : sqMag w ≤ 128 ^ 2 := hw ▸ twiddle_magnitude ha
  exact butterfly_exact_and_bounded hR hmag hx hy

/-! ## The bound along the transform -/

/-- Every cell of the arrays has at most the magnitude. -/
def CellsWithin (R : Nat) (t : Table) : Prop := ∀ k < 128, sqMag (tableAt t k) ≤ (R : Int) ^ 2

theorem CellsWithin.mono {R R' : Nat} {t : Table} (h : CellsWithin R t) (hle : R ≤ R') : CellsWithin R' t := by
  intro k hk
  have hsq : (R : Int) ^ 2 ≤ (R' : Int) ^ 2 := by exact_mod_cast Nat.pow_le_pow_left hle 2
  exact (h k hk).trans hsq

theorem stageOrder_in_range {stage : Nat} (hs : stage < 7) {b : Nat × Nat × Nat} (hb : b ∈ stageOrder stage) :
    b.1 = stage ∧ angleIndex b.1 b.2.1 < 64 ∧ b.2.2 + halfSpan b.1 < 128 := by
  obtain ⟨m, hm, k, hk, rfl⟩ := mem_stageOrder.1 hb
  refine ⟨rfl, angleIndex_lt hs hm, ?_⟩
  simp only [two_shiftLeft]
  interval_cases stage <;> simp [halfSpan] at * <;> omega

/-- The butterfly at a place, on cells that are within the bound. -/
theorem butterfly_at_place {R : Nat} (hR : R ≤ 32750) {b : Nat × Nat × Nat} (ha : angleIndex b.1 b.2.1 < 64) {t : Table}
    (hcells : ∀ k, Touches b k → sqMag (tableAt t k) ≤ (R : Int) ^ 2) :
    ButterflyExact Config.default (twiddle Config.default b.1 b.2.1) (tableAt t b.2.2)
        (tableAt t (b.2.2 + halfSpan b.1)) ∧
      sqMag (bflyLow Config.default (twiddle Config.default b.1 b.2.1) (tableAt t b.2.2)
        (tableAt t (b.2.2 + halfSpan b.1))) ≤ ((R : Int) + 3) ^ 2 ∧
      sqMag (bflyHigh Config.default (twiddle Config.default b.1 b.2.1) (tableAt t b.2.2)
        (tableAt t (b.2.2 + halfSpan b.1))) ≤ ((R : Int) + 3) ^ 2 :=
  butterfly_exact_and_bounded hR (twiddle_magnitude ha) (hcells _ (.inl rfl)) (hcells _ (.inr rfl))

/-- Butterflies on disjoint cells let every cell grow by at most 3. -/
theorem CellsWithin.after_disjoint {R : Nat} (hR : R ≤ 32750) {l : List (Nat × Nat × Nat)}
    (hl : l.Pairwise fun b d => ∀ k, Touches b k → ¬Touches d k) (ha : ∀ b ∈ l, angleIndex b.1 b.2.1 < 64) {t : Table}
    (ht : TableOk t) (hcells : ∀ b ∈ l, ∀ k, Touches b k → sqMag (tableAt t k) ≤ (R : Int) ^ 2)
    (hall : CellsWithin (R + 3) t) : CellsWithin (R + 3) (runButterflies Config.default l t) := by
  induction l generalizing t with
  | nil => exact hall
  | cons b rest ih =>
    obtain ⟨hb, hrest⟩ := List.pairwise_cons.1 hl
    obtain ⟨hab, harest⟩ := List.forall_mem_cons.1 ha
    obtain ⟨hcb, hcrest⟩ := List.forall_mem_cons.1 hcells
    obtain ⟨-, hlow, hhigh⟩ := butterfly_at_place hR hab hcb
    rw [runButterflies_cons]
    refine ih hrest harest (ht.butterfly ..) (fun d hd k hk => ?_) fun k hk => ?_
    · rw [tableAt_butterfly_untouched ht _ fun hbk => hb d hd k hbk hk]
      exact hcrest d hd k hk
    · rw [tableAt_butterfly ht]
      push_cast
      split_ifs
      · exact hhigh
      · exact hlow
      · exact_mod_cast hall k hk

/-- After `n` stages the bound has grown by `3 * n`. -/
theorem CellsWithin.stages {R n : Nat} (hR : R + 3 * n ≤ 32750) (hn : n ≤ 7) {t : Table} (ht : TableOk t)
    (hall : CellsWithin R t) :
    CellsWithin (R + 3 * n) (runButterflies Config.default ((List.range n).flatMap stageOrder) t) := by
  induction n with
  | zero => exact hall
  | succ n ih =>
    have hprev := ih (by omega) (by omega)
    rw [List.range_succ, List.flatMap_append, List.flatMap_singleton, runButterflies_append]
    refine CellsWithin.after_disjoint (R := R + 3 * n) (by omega) (stageOrder_pairwise_disjoint (by omega))
      (fun b hb => (stageOrder_in_range (by omega) hb).2.1) (ht.runButterflies ..) (fun b hb k hk => ?_)
      (hprev.mono (by omega))
    obtain ⟨-, -, hlt⟩ := stageOrder_in_range (by omega) hb
    exact hprev k (by rcases hk with rfl | rfl <;> omega)

/-- A place of the order stands in its stage, after the whole stages before it. -/
theorem exists_stage_split {N n : Nat} {b : Nat × Nat × Nat} (hb : ((List.range N).flatMap stageOrder)[n]? = some b) :
    ∃ stage < N, ∃ l l', stageOrder stage = l ++ b :: l' ∧
      ((List.range N).flatMap stageOrder).take n = (List.range stage).flatMap stageOrder ++ l := by
  induction N with
  | zero => simp at hb
  | succ N ih =>
    rw [List.range_succ, List.flatMap_append, List.flatMap_singleton] at hb ⊢
    by_cases hlt : n < ((List.range N).flatMap stageOrder).length
    · rw [List.getElem?_append_left hlt] at hb
      obtain ⟨stage, hs, l, l', hsplit, htake⟩ := ih hb
      exact ⟨stage, by omega, l, l', hsplit, by rw [List.take_append_of_le_length hlt.le, htake]⟩
    · have hle := Nat.le_of_not_lt hlt
      rw [List.getElem?_append_right hle] at hb
      obtain ⟨hin, hget⟩ := List.getElem?_eq_some_iff.1 hb
      refine ⟨N, Nat.lt_succ_self N, (stageOrder N).take (n - ((List.range N).flatMap stageOrder).length),
        (stageOrder N).drop (n - ((List.range N).flatMap stageOrder).length + 1), ?_, ?_⟩
      · rw [← hget, List.cons_getElem_drop_succ, List.take_append_drop]
      · rw [List.take_append, List.take_of_length_le hle]

theorem sq_le_of_bounds {v : Int} {R : Nat} (h : -(R : Int) ≤ v ∧ v ≤ R) : v ^ 2 ≤ (R : Int) ^ 2 :=
  sq_le_sq' h.1 h.2

/-- Settles O41: before its own stage's butterflies a cell is within 32700 and 3 for each stage done, and a butterfly's
cells are not touched by the others of its stage. -/
theorem transformOfRealSamplesNeverWraps : Obligations.TransformOfRealSamplesNeverWraps := by
  intro fr fi hfr hfi hreal hzero n stage m i u hplace hu
  have hwf := bitReverse_wf hfr
  have hread := read_bitReverse hfr
  rw [butterflyOrder_eq] at hplace hu
  generalize bitReverse fr = fr' at hwf hread hu
  have hok : TableOk (fr', fi) := ⟨hwf, hfi⟩
  have hstart : CellsWithin 32700 (fr', fi) := by
    intro k hk
    have him : sint16 (fi.read k) = 0 := by rw [hzero k hk]; rfl
    rw [sqMag, tableAt, him, hread]
    simpa using sq_le_of_bounds (R := 32700) (hreal _ (revIndex_lt hk))
  obtain ⟨st, hs, l, l', hsplit, htake⟩ := exists_stage_split hplace
  have hmem : (stage, m, i) ∈ stageOrder st := by simp [hsplit]
  obtain ⟨-, hangle, hlt⟩ := stageOrder_in_range hs hmem
  have hdone := hstart.stages (n := st) (by omega) (by omega) hok
  have hdisj := stageOrder_pairwise_disjoint hs
  rw [hsplit, List.pairwise_append] at hdisj
  obtain ⟨-, -, hbefore⟩ := hdisj
  have hrun : u = runButterflies Config.default l
      (runButterflies Config.default ((List.range st).flatMap stageOrder) (fr', fi)) := by
    rw [hu, htake, ← runButterflies_append]
    rfl
  refine (butterfly_at_place (R := 32700 + 3 * st) (b := (stage, m, i)) (by omega) hangle fun k hk => ?_).1
  rw [hrun, tableAt_runButterflies_untouched (hok.runButterflies ..) _
    fun d hd hdk => hbefore d hd _ List.mem_cons_self k hdk hk]
  have hk128 : k < 128 := by
    rcases hk with rfl | rfl
    · exact Nat.lt_of_le_of_lt (Nat.le_add_right ..) hlt
    · exact hlt
  exact hdone k hk128

end Sys2Proof.Machine
end

section
/-! PROOFS. What the invariant says of the sink, clause by clause; and the scanline counter over a frame (statement
FrameHasTheConfiguredLines): the counter turns in a circle of `LINES` values, so what holds of a range of lines is
counted once in a frame. -/

namespace Sys2Proof.Machine

/-! ## What the invariant says of the sink, by name (rules R39, R42, R48, R154 to R157, R186) -/

theorem ReceiverOk.count_le {s : State} (h : ReceiverOk s) : s.rxcnt.toNat ≤ 32 := by
  obtain ⟨-, hcnt, -⟩ := h
  exact hcnt

/-- Chunks begin at multiples of four. -/
theorem ReceiverOk.count_mod {s : State} (h : ReceiverOk s) : s.rxcnt.toNat % 4 = s.rb.toNat := by
  obtain ⟨-, -, hmod, -⟩ := h
  exact hmod

theorem ReceiverOk.rr_iff {s : State} (h : ReceiverOk s) : s.rr = true ↔ s.snkPh = .rrd0 ∨ s.snkPh = .rrdyoff := by
  obtain ⟨-, -, -, hrr, -⟩ := h
  exact hrr

theorem ReceiverOk.rb_eq_zero {s : State} (h : ReceiverOk s) (hoff : s.snkPh ≠ .rrdyoff) (hrdn : s.snkPh ≠ .rrdn) :
    s.rb = 0 := by
  obtain ⟨-, -, -, -, hrb, -⟩ := h
  exact hrb hoff hrdn

theorem ReceiverOk.rb_at_rrdyoff {s : State} (h : ReceiverOk s) (hph : s.snkPh = .rrdyoff) : s.rb = 1 := by
  obtain ⟨-, -, -, -, -, -, hrb, -⟩ := h
  exact hrb hph

theorem ReceiverOk.rb_add_one_toNat {s : State} (h : ReceiverOk s) (hph : s.snkPh = .rrdn) :
    (s.rb + 1).toNat = s.rb.toNat + 1 := by
  obtain ⟨-, -, hlt⟩ := h.at_rrdn hph
  exact toNat_add_one (by omega)

theorem RasterOk.line_lt {s : State} (h : RasterOk s) : s.line.toNat < s.cfg.wrapAt := by
  obtain ⟨-, hlt, -⟩ := h
  exact hlt

theorem RasterOk.col_eq_zero {s : State} (h : RasterOk s) (hph : s.snkPh ≠ .emit) : s.col = 0 := by
  obtain ⟨-, -, -, -, hcol, -⟩ := h
  exact hcol hph

theorem RasterOk.sync_eq {s : State} (h : RasterOk s) (hcount : s.snkPh ≠ .count) (hoff : s.snkPh ≠ .syncoff) :
    s.sync = !s.pol := by
  obtain ⟨-, -, -, -, -, -, hsync⟩ := h
  exact hsync hcount hoff

theorem RasterOk.not_visible_at_rpoll {s : State} (h : RasterOk s) (hph : s.snkPh = .rpoll) :
    visibleLine s.cfg s.line.toNat = false := by
  obtain ⟨-, -, -, -, -, hvis, -⟩ := h
  exact hvis (.inl hph)

theorem StreamerOk.busy_of_dr {s : State} (h : StreamerOk s) (hdr : s.dr = true) : s.strPh ≠ .idle := by
  obtain ⟨hiff, -⟩ := h
  exact hiff.1 hdr

/-! ## Counting over one turn of a circle -/

theorem range_rotate (n m : Nat) : (List.range n).rotate m = (List.range n).map fun k => (k + m) % n := by
  refine List.ext_getElem (by simp) fun k hk _ => ?_
  simp [List.getElem_rotate]

/-- A whole turn meets every value once, wherever it begins. -/
theorem countP_turn (p : Nat → Bool) (n m : Nat) :
    ((List.range n).countP fun k => p ((k + m) % n)) = (List.range n).countP p := by
  calc _ = ((List.range n).rotate m).countP p := by rw [range_rotate, List.countP_map]; rfl
    _ = (List.range n).countP p := (List.rotate_perm _ m).countP_eq p

theorem countP_between (a b n : Nat) :
    ((List.range n).countP fun k => decide (a ≤ k) && decide (k < b)) = min b n - a := by
  induction n with
  | zero => simp
  | succ n ih =>
    rw [List.range_succ, List.countP_append, ih, List.countP_singleton]
    split_ifs with h <;> simp only [Bool.and_eq_true, decide_eq_true_eq] at h <;> omega

/-! ## The counter (rules R183, R186, R187) -/

/-- What the counter and the polarity keep by themselves. -/
structure ScanlineOk (s : State) : Prop where
  config : s.cfg.valid = true
  first : s.cfg.lineFirst ≤ s.line.toNat
  wrap : s.line.toNat < s.cfg.wrapAt
  pol : s.pol = true ↔ s.cfg.vsStart ≤ s.line.toNat ∧ s.line.toNat < s.cfg.vsEnd

theorem MachineOk.scanline {s : State} (h : MachineOk s) : ScanlineOk s := by
  obtain ⟨hfirst, hwrap, hpol, -⟩ := h.raster
  exact ⟨h.config, hfirst, hwrap, hpol⟩

/-- The counter's place in its circle of `LINES` values. -/
def linePlace (s : State) : Nat := s.line.toNat - s.cfg.lineFirst

theorem ScanlineOk.next {s : State} (h : ScanlineOk s) : ScanlineOk (nextScanline s) ∧
    linePlace (nextScanline s) = (linePlace s + 1) % s.cfg.lines := by
  obtain ⟨hc, hfirst, hwrap, hpol⟩ := h
  obtain ⟨_, _, _, _, _, _, -⟩ := config_bounds_of_valid hc
  have hline : (nextScanline s).line.toNat = _ := countedLine_toNat hc hwrap
  have hpol' : (nextScanline s).pol = _ := countedPol_eq hc hwrap
  refine ⟨⟨hc, ?_, ?_, ?_⟩, ?_⟩
  · rw [hline]; change s.cfg.lineFirst ≤ _; split_ifs <;> omega
  · rw [hline]; change _ < s.cfg.wrapAt; split_ifs <;> omega
  · rw [hline, hpol']
    change _ ↔ s.cfg.vsStart ≤ _ ∧ _ < s.cfg.vsEnd
    split_ifs <;> simp only [true_iff, false_iff, hpol] <;> omega
  · have hplace : linePlace (nextScanline s) = _ - s.cfg.lineFirst := congrArg (· - s.cfg.lineFirst) hline
    rw [hplace, linePlace, Config.lines]
    split_ifs with hend
    · rw [show s.line.toNat - s.cfg.lineFirst + 1 = s.cfg.wrapAt - s.cfg.lineFirst by omega, Nat.mod_self, Nat.sub_self]
    · rw [Nat.mod_eq_of_lt (by omega)]; omega

theorem scanlineAfter_frame (k : Nat) (s : State) :
    scanlineAfter k s = { s with line := (scanlineAfter k s).line, pol := (scanlineAfter k s).pol } := by
  induction k generalizing s with
  | zero => rfl
  | succ k ih => exact ih (nextScanline s)

theorem ScanlineOk.after {s : State} (h : ScanlineOk s) (k : Nat) : ScanlineOk (scanlineAfter k s) ∧
    linePlace (scanlineAfter k s) = (linePlace s + k) % s.cfg.lines := by
  have hlt {s : State} (h : ScanlineOk s) : linePlace s < s.cfg.lines := Nat.sub_lt_sub_right h.first h.wrap
  induction k generalizing s with
  | zero => exact ⟨h, (Nat.mod_eq_of_lt (hlt h)).symm⟩
  | succ k ih =>
    obtain ⟨hnext, hplace⟩ := h.next
    obtain ⟨hafter, hk⟩ := ih hnext
    refine ⟨hafter, hk.trans ?_⟩
    rw [hplace]
    change ((linePlace s + 1) % s.cfg.lines + k) % s.cfg.lines = _
    rw [Nat.mod_add_mod]
    congr 1
    omega

theorem ScanlineOk.line_after {s : State} (h : ScanlineOk s) (k : Nat) :
    (scanlineAfter k s).line.toNat = s.cfg.lineFirst + (linePlace s + k) % s.cfg.lines := by
  obtain ⟨hok, hplace⟩ := h.after k
  have hfirst : s.cfg.lineFirst ≤ (scanlineAfter k s).line.toNat := by
    have hle := hok.first
    rwa [scanlineAfter_frame] at hle
  have hcfg : linePlace (scanlineAfter k s) = (scanlineAfter k s).line.toNat - s.cfg.lineFirst := by
    rw [linePlace, scanlineAfter_frame]
  omega

/-- In a frame the lines of a range within it are met once each. -/
theorem ScanlineOk.countP_lines {s : State} (h : ScanlineOk s) {a b : Nat} (ha : s.cfg.lineFirst ≤ a)
    (hb : b ≤ s.cfg.wrapAt) :
    ((List.range s.cfg.lines).countP fun k =>
      decide (a ≤ (scanlineAfter (k + 1) s).line.toNat) && decide ((scanlineAfter (k + 1) s).line.toNat < b)) =
        b - a := by
  have hplace (k : Nat) : (scanlineAfter (k + 1) s).line.toNat =
      s.cfg.lineFirst + (k + (linePlace s + 1)) % s.cfg.lines := by
    rw [h.line_after, Nat.add_left_comm]
  simp only [hplace]
  rw [countP_turn (fun x => decide (a ≤ s.cfg.lineFirst + x) && decide (s.cfg.lineFirst + x < b))]
  have hshift (x : Nat) : (decide (a ≤ s.cfg.lineFirst + x) && decide (s.cfg.lineFirst + x < b)) =
      (decide (a - s.cfg.lineFirst ≤ x) && decide (x < b - s.cfg.lineFirst)) := by
    congr 1 <;> exact decide_eq_decide.2 (by omega)
  simp only [hshift, countP_between, Config.lines]
  omega

/-- The polarity of a line is determined by its number. -/
theorem ScanlineOk.pol_eq {s : State} (h : ScanlineOk s) :
    s.pol = (decide (s.cfg.vsStart ≤ s.line.toNat) && decide (s.line.toNat < s.cfg.vsEnd)) := by
  rw [Bool.eq_iff_iff, h.pol]
  simp

theorem ScanlineOk.after_frame {s : State} (h : ScanlineOk s) : scanlineAfter s.cfg.lines s = s := by
  have hline : (scanlineAfter s.cfg.lines s).line = s.line := by
    refine BitVec.eq_of_toNat_eq ?_
    have hfirst := h.first
    have hlt : linePlace s < s.cfg.lines := Nat.sub_lt_sub_right hfirst h.wrap
    rw [h.line_after, Nat.add_mod_right, Nat.mod_eq_of_lt hlt, linePlace]
    omega
  have hpol : (scanlineAfter s.cfg.lines s).pol = s.pol := by
    rw [(h.after s.cfg.lines).1.pol_eq, h.pol_eq, hline, scanlineAfter_frame]
  rw [scanlineAfter_frame, hline, hpol]

/-- Settles O60: by induction on the counts the place in the circle advances by one, so a frame is one turn. -/
theorem frameHasTheConfiguredLines : Obligations.FrameHasTheConfiguredLines := by
  refine ⟨fun s hph => exec_rasCount_of_count hph, fun s k h => h.scanline.line_after k, fun s hok => ?_⟩
  have h := hok.scanline
  obtain ⟨_, _, _, _, _, _, -⟩ := config_bounds_of_valid h.config
  have hvisible : ((List.range s.cfg.lines).countP fun k => visibleLine s.cfg (scanlineAfter (k + 1) s).line.toNat) =
      s.cfg.visLines := h.countP_lines (by omega) (by omega)
  refine ⟨hvisible, ?_, ?_, h.after_frame⟩
  · have hpol (k : Nat) : (scanlineAfter (k + 1) s).pol = _ := (h.after (k + 1)).1.pol_eq
    simp only [hpol]
    have hcfg (k : Nat) : (scanlineAfter k s).cfg = s.cfg := by rw [scanlineAfter_frame]
    simp only [hcfg]
    exact h.countP_lines (by omega) (by omega)
  · have htotal := List.length_eq_countP_add_countP
      (fun k => visibleLine s.cfg (scanlineAfter (k + 1) s).line.toNat) (l := List.range s.cfg.lines)
    simp only [List.length_range, hvisible, Bool.not_eq_true, Bool.decide_eq_false] at htotal
    omega

end Sys2Proof.Machine
end

section
/-! PROOFS. The scanline invocations (statements VisibleInvocation and BlankingInvocation): the three steps that open
one, the row of a visible line by induction on its bytes, and the five steps of a chunk. -/

namespace Sys2Proof.Machine

theorem TakesSteps.head {a : Agent} {k : Nat} {s u t : State} (he : agentEnabled a s = true)
    (hu : stepAgent a s = .next u) (h : TakesSteps a k u t) : TakesSteps a (k + 1) s t := ⟨he, u, hu, h⟩

/-! ## The three opening steps (rules R182 to R184) -/

/-- The state after RAS.SYNCON, RAS.COUNT and RAS.SYNCOFF. -/
def opened (s : State) : State :=
  { s with
    tickPend := false, line := countedLine s, pol := countedPol s, sync := !countedPol s, col := 0
    out := s.out ++ [.sync s.pol, .sync (!countedPol s)]
    snkPh :=
      if visibleLine s.cfg (countedLine s).toNat then .emit
      else if countedPol s && !s.cfg.rxInVsync then .idle else .rpoll }

theorem takesSteps_opened {s t : State} {k : Nat} (hok : MachineOk s) (hph : s.snkPh = .idle)
    (htick : s.tickPend = true) (h : TakesSteps .snk k (opened s) t) : TakesSteps .snk (k + 3) s t := by
  have hcol : s.col = 0 := hok.raster.col_eq_zero (by simp [hph])
  refine .head (by rw [agentEnabled_snk, hph]; exact htick) (stepAgent_snk_of_tick hph htick) ?_
  refine .head (by rw [agentEnabled_snk]; rfl) (stepAgent_snk_of_count rfl) ?_
  refine .head (by rw [agentEnabled_snk]) (stepAgent_snk_of_syncoff rfl) ?_
  convert h using 1
  simp only [opened, State.enterInvocation, State.driveSync, List.append_assoc, List.cons_append, List.nil_append, hcol,
    ite_self]
  rfl

/-- The line that the invocation counts to. -/
theorem countedLine_eq {s : State} {n : Nat} (hok : MachineOk s)
    (hn : n = if s.line.toNat + 1 = s.cfg.wrapAt then s.cfg.lineFirst else s.line.toNat + 1) :
    (countedLine s).toNat = n ∧ countedLine s = BitVec.ofNat 9 n := by
  have hline := (countedLine_toNat hok.config hok.raster.line_lt).trans hn.symm
  exact ⟨hline, by rw [← hline, BitVec.ofNat_toNat, BitVec.setWidth_eq]⟩

/-- The polarity before the count: that of the line before the one counted to (rule R186). -/
theorem pol_before_count {s : State} {n : Nat} (hok : MachineOk s)
    (hn : n = if s.line.toNat + 1 = s.cfg.wrapAt then s.cfg.lineFirst else s.line.toNat + 1) :
    s.pol = decide (s.cfg.vsStart < n ∧ n ≤ s.cfg.vsEnd) := by
  obtain ⟨hlo, hhi, hpol, -⟩ := hok.raster
  obtain ⟨_, _, _, _, _, _, -⟩ := config_bounds_of_valid hok.config
  rw [Bool.eq_iff_iff, hpol, decide_eq_true_eq]
  split_ifs at hn <;> omega

theorem pol_after_count {s : State} {n : Nat} (hok : MachineOk s)
    (hn : n = if s.line.toNat + 1 = s.cfg.wrapAt then s.cfg.lineFirst else s.line.toNat + 1) :
    countedPol s = decide (s.cfg.vsStart ≤ n ∧ n < s.cfg.vsEnd) := by
  rw [Bool.eq_iff_iff, countedPol_iff hok.config hok.raster, (countedLine_eq hok hn).1, decide_eq_true_eq]

/-! ## A visible line -/

/-- The bytes that the row still has to show, `m` of them. -/
def rowRest (m : Nat) (s : State) : List Event := (List.range m).map fun k => .pix (s.fb.read (emitIndex s + k))

theorem rowRest_succ {m : Nat} {s : State} (hcol : (s.col + 1).toNat = s.col.toNat + 1) :
    rowRest (m + 1) s = .pix (s.fb.read (emitIndex s)) :: rowRest m { s with col := s.col + 1 } := by
  simp only [rowRest, List.range_succ_eq_map, List.map_cons, List.map_map, emitIndex, hcol, Nat.add_zero]
  congr 2
  funext k
  simp only [Function.comp_apply, Nat.succ_eq_add_one, Nat.add_assoc, Nat.add_comm 1 k]

/-- The rest of a row, by induction on the bytes left. -/
theorem takesSteps_row {m : Nat} {s : State} (hok : MachineOk s) (hph : s.snkPh = .emit)
    (hm : s.col.toNat + (m + 1) = s.cfg.bpr) :
    TakesSteps .snk (m + 1) s { s with col := 0, snkPh := .idle, out := s.out ++ rowRest (m + 1) s } := by
  have he : agentEnabled .snk s = true := by rw [agentEnabled_snk, hph]
  have hstep := stepAgent_snk_of_emit hok.raster hph
  induction m generalizing s with
  | zero =>
    refine .head he hstep ?_
    rw [emitAdvance_of_last (s := s.shiftOut (s.fb.read (emitIndex s))) hm]
    rfl
  | succ m ih =>
    obtain ⟨-, -, -, -, -, -, -, hbpr⟩ := config_bounds_of_valid hok.config
    have hcol : (s.col + 1).toNat = s.col.toNat + 1 := toNat_add_one (by omega)
    have hmore : emitAdvance (s.shiftOut (s.fb.read (emitIndex s))) =
        { s with out := s.out ++ [.pix (s.fb.read (emitIndex s))], col := s.col + 1 } :=
      emitAdvance_of_more (s := s.shiftOut (s.fb.read (emitIndex s))) (by change s.col.toNat < s.cfg.bpr; omega)
        (by change s.col.toNat + 1 ≠ s.cfg.bpr; omega)
    have hok' := (properStep_of_emit hok hph (s.fb.read (emitIndex s))).ok
    rw [hmore] at hstep hok'
    have hrest := ih hok' hph (by change (s.col + 1).toNat + (m + 1) = s.cfg.bpr; omega) (by rw [agentEnabled_snk, hph])
      (stepAgent_snk_of_emit hok'.raster hph)
    refine .head he hstep ?_
    rw [List.append_assoc] at hrest
    rw [rowRest_succ hcol]
    exact hrest

/-- Settles O57: the opening steps reach the row, whose bytes are sent one by one. -/
theorem visibleInvocation : Obligations.VisibleInvocation := by
  intro s n hok hph htick hn htop hbot
  refine ⟨_, ?_, rfl⟩
  obtain ⟨hline, hlineEq⟩ := countedLine_eq hok hn
  obtain ⟨_, _, _, _, _, _, hbpr, -⟩ := config_bounds_of_valid hok.config
  have hvis : visibleLine s.cfg (countedLine s).toNat = true := (visibleLine_iff ..).2 (hline ▸ ⟨htop, hbot⟩)
  have hpol : countedPol s = false := by rw [pol_after_count hok hn, decide_eq_false_iff_not]; omega
  have hpolBefore : s.pol = false := by rw [pol_before_count hok hn, decide_eq_false_iff_not]; omega
  have hsync : s.sync = !s.pol := hok.raster.sync_eq (by simp [hph]) (by simp [hph])
  have hcol : s.col = 0 := hok.raster.col_eq_zero (by simp [hph])
  have hopened : MachineOk (opened s) := hok.of_takesSteps (takesSteps_opened (k := 0) hok hph htick rfl)
  have hrow := takesSteps_row (m := s.cfg.bpr - 1) hopened (by simp [opened, hvis])
    (by change 0 + _ = s.cfg.bpr; omega)
  rw [Nat.sub_add_cancel hbpr] at hrow
  rw [Nat.add_comm]
  convert takesSteps_opened hok hph htick hrow using 1
  have hshown : rowRest s.cfg.bpr (opened s) =
      (List.range s.cfg.bpr).map fun k => .pix (s.fb.read ((n - s.cfg.visTop) * s.cfg.bpr + k)) := by
    simp only [rowRest, emitIndex, opened, hline, BitVec.ofNat_eq_ofNat, BitVec.toNat_ofNat, Nat.zero_mod, Nat.add_zero]
  rw [hshown]
  simp [opened, hlineEq, hpol, hpolBefore, hsync, hcol, hph]

/-! ## A chunk -/

/-- A move inside a chunk counts what it adds to `RB`, or takes the chunk's last byte and ends the invocation. -/
def ChunkMove (s t : State) : Prop :=
  (t.rxcnt.toNat + s.rb.toNat = s.rxcnt.toNat + t.rb.toNat ∧ readsChunk t.snkPh) ∨
  (s.snkPh = .rrdn ∧ s.rb = 3 ∧ t.snkPh = .idle ∧ t.rxcnt.toNat + s.rb.toNat = s.rxcnt.toNat + 4)

theorem Move.in_chunk {a : Agent} {s t : State} (hok : MachineOk s) (hchunk : readsChunk s.snkPh) (h : Move a s t) :
    ChunkMove s t := by
  have hcnt1 (hlt : s.rxcnt.toNat < 32) : (s.rxcnt + 1).toNat = s.rxcnt.toNat + 1 := toNat_add_one (by omega)
  cases a with
  | fft => rw [h.fft_frame]; exact .inl ⟨rfl, hchunk⟩
  | str | lnk => cases h <;> exact .inl ⟨rfl, hchunk⟩
  | snk =>
    cases h with
    | rd0 hph hq =>
      have hrb : s.rb = 0 := hok.receiver.rb_eq_zero (by simp [hph]) (by simp [hph])
      refine .inl ⟨?_, .inr (.inl rfl)⟩
      rw [hrb]
      exact hcnt1 (hok.receiver.at_rrd0 hph)
    | rdyoff hph => exact .inl ⟨rfl, .inr (.inr rfl)⟩
    | rdn hph hq hrb =>
      obtain ⟨hlt, -, hrb4⟩ := hok.receiver.at_rrdn hph
      refine .inl ⟨?_, hchunk⟩
      have hsucc : (s.rb + 1).toNat = s.rb.toNat + 1 := toNat_add_one (by omega)
      simp only [byteTaken, hcnt1 hlt, hsucc]
      omega
    | rdnLast hph hq hrb =>
      obtain ⟨hlt, -, -⟩ := hok.receiver.at_rrdn hph
      have hrb3 := (rb_add_one_eq_four_iff _).1 hrb
      refine .inr ⟨hph, BitVec.eq_of_toNat_eq (by simpa using hrb3), rfl, ?_⟩
      simp only [byteTaken, hcnt1 hlt]
      omega
    | syncon hph | count hph | syncoff hph | emit hph | emitLast hph | accept hph | decline hph =>
      simp [readsChunk, hph] at hchunk

/-- Four queued bytes are one chunk, and the invocation's last five steps. -/
theorem takesSteps_chunk {s : State} {b0 b1 b2 b3 : Byte} {rest : List Byte} (hok : MachineOk s)
    (hph : s.snkPh = .rrd0) (hq : s.rxq = b0 :: b1 :: b2 :: b3 :: rest) :
    ∃ t, TakesSteps .snk 5 s t ∧ t.rxcnt.toNat = s.rxcnt.toNat + 4 ∧
      (∀ k, t.rxbins.read k =
        if k = s.rxcnt.toNat then b0 else if k = s.rxcnt.toNat + 1 then b1 else if k = s.rxcnt.toNat + 2 then b2
        else if k = s.rxcnt.toNat + 3 then b3 else s.rxbins.read k) ∧
      t = { s with rxq := rest, rxbins := t.rxbins, rxcnt := t.rxcnt, rr := false, snkPh := .idle } := by
  have hlt := hok.receiver.at_rrd0 hph
  have hrb : s.rb = 0 := hok.receiver.rb_eq_zero (by simp [hph]) (by simp [hph])
  have hmod : s.rxcnt.toNat % 4 = 0 := by simpa [hrb] using hok.receiver.count_mod
  have en {u : State} {b : Byte} {l : List Byte} (hu : u.snkPh = .rrd0 ∨ u.snkPh = .rrdn) (hl : u.rxq = b :: l) :
      agentEnabled .snk u = true := by
    rcases hu with hu | hu <;> rw [agentEnabled_snk, hu] <;> exact rxc_of_cons hl
  have more {u : State} {b : Byte} {l : List Byte} (h : u.rb + 1 ≠ 4) :
      (if u.rb + 1 = 4 then { byteTaken b l u with rb := 0, snkPh := .idle }
        else { byteTaken b l u with rb := u.rb + 1 }) = { byteTaken b l u with rb := u.rb + 1 } := if_neg h
  have h1 := properStep_of_rrd0 hok hph hq
  have h2 := properStep_of_rrdyoff h1.ok rfl
  have h3 := properStep_of_rrdn h2.ok rfl rfl
  have h4 := properStep_of_rrdn h3.ok rfl rfl
  have hc1 : (s.rxcnt + 1).toNat = s.rxcnt.toNat + 1 := by bv_omega
  have hc2 : (s.rxcnt + 1 + 1).toNat = s.rxcnt.toNat + 2 := by bv_omega
  have hc3 : (s.rxcnt + 1 + 1 + 1).toNat = s.rxcnt.toNat + 3 := by bv_omega
  refine ⟨_, .head (en (.inl hph) hq) (stepAgent_snk_of_rrd0 hok.receiver hph hq)
    (.head (by rw [agentEnabled_snk]) (stepAgent_snk_of_rrdyoff rfl)
    (.head (en (.inr rfl) rfl) (stepAgent_snk_of_rrdn h2.ok.receiver rfl rfl)
    (.head (en (.inr rfl) rfl) (stepAgent_snk_of_rrdn h3.ok.receiver rfl rfl)
    (.head (en (.inr rfl) rfl) (stepAgent_snk_of_rrdn h4.ok.receiver rfl rfl) rfl)))), ?_, fun k => ?_, ?_⟩
  · change (s.rxcnt + 1 + 1 + 1 + 1).toNat = _
    bv_omega
  · refine (read_byteTaken h4.ok.memories b3 rest k).trans ?_
    refine (congrArg (ite _ _) ((read_byteTaken h3.ok.memories b2 (b3 :: rest) k).trans
      (congrArg (ite _ _) ((read_byteTaken h2.ok.memories b1 (b2 :: b3 :: rest) k).trans
      (congrArg (ite _ _) (read_byteTaken hok.memories b0 (b1 :: b2 :: b3 :: rest) k)))))).trans ?_
    change (if k = (s.rxcnt + 1 + 1 + 1).toNat then b3 else if k = (s.rxcnt + 1 + 1).toNat then b2
      else if k = (s.rxcnt + 1).toNat then b1 else _) = _
    rw [hc1, hc2, hc3]
    grind
  · simp [byteTaken, hrb]

/-- Settles O58: the opening steps by the line counted to, a queued chunk step by step, and each move inside one. -/
theorem blankingInvocation : Obligations.BlankingInvocation := by
  refine ⟨fun s n hok hph htick hn hvis inRegion t hin ht => ?_, fun s b0 b1 b2 b3 rest => takesSteps_chunk,
    fun s t hok hchunk hstep => ?_⟩
  · obtain ⟨hline, hlineEq⟩ := countedLine_eq hok hn
    have hvisF : visibleLine s.cfg (countedLine s).toNat = false := by
      rw [Bool.eq_false_iff, ne_eq, visibleLine_iff, hline]
      exact hvis
    have hpol : countedPol s = inRegion := (pol_after_count hok hn).trans hin.symm
    have hcol : s.col = 0 := hok.raster.col_eq_zero (by simp [hph])
    have hopened : opened s = { t with snkPh := if inRegion && !s.cfg.rxInVsync then .idle else .rpoll } := by
      simp only [opened, hvisF, Bool.false_eq_true, if_false]
      simp [ht, hlineEq, hpol, hcol, pol_before_count hok hn]
    refine ⟨fun hends => takesSteps_opened (k := 0) hok hph htick ?_, fun hpolls hno => ?_, fun hpolls hyes => ?_⟩
    · rw [TakesSteps, hopened]
      simp [hends, ht, hph]
    · refine takesSteps_opened (k := 1) hok hph htick (.head ?_ (stepAgent_snk_of_rpoll ?_) ?_)
      · rw [agentEnabled_snk, hopened]; simp [hpolls]
      · simp [hopened, hpolls]
      · have hdecline : (s.dr && decide (s.rxcnt.toNat < 32)) = false := by simpa using hno
        refine (if_neg (Bool.eq_false_iff.1 hdecline)).trans ?_
        rw [hopened, ht, State.endInvocation, ← hph]
    · refine takesSteps_opened (k := 1) hok hph htick (.head ?_ (stepAgent_snk_of_rpoll ?_) ?_)
      · rw [agentEnabled_snk, hopened]; simp [hpolls]
      · simp [hopened, hpolls]
      · have haccept : (s.dr && decide (s.rxcnt.toNat < 32)) = true := by simpa using hyes
        have hrb : s.rb = 0 := hok.receiver.rb_eq_zero (by simp [hph]) (by simp [hph])
        refine (if_pos haccept).trans ?_
        rw [hopened, ht, ← hrb]
  · by_cases he : agentEnabled .snk s = true
    · exact (stepAgent_move he hstep).in_chunk hok hchunk
    · rw [stepAgent_of_disabled (by simpa using he)] at hstep
      injection hstep with hstep
      exact hstep ▸ .inl ⟨rfl, hchunk⟩

end Sys2Proof.Machine
end

section
/-! PROOFS. Runs from reset (used by the statements on the link and the video premises): every state of a run is in
order and its turns are of the schedule; and the step that a word presents, for the words the statements count. -/

namespace Sys2Proof.Machine

/-! ## The word that a step presents -/

theorem presents_unique {i j : Instr} {s : State} (hi : Presents i s) (hj : Presents j s) : i = j := by
  obtain ⟨w, ts, hturns, hdec⟩ := hi
  obtain ⟨w', ts', hturns', hdec'⟩ := hj
  obtain ⟨rfl, -⟩ : w = w' ∧ ts = ts' := by simpa [hturns] using hturns'
  exact Except.ok.inj (hdec.symm.trans hdec')

theorem presents_iff {i : Instr} {w : PortWord} {s : State} (hdec : decode (.word w) = .ok i) :
    Presents i s ↔ s.turns.head? = some (.word w) := by
  refine ⟨presents_head (encode_of_decode_word hdec), fun h => ?_⟩
  obtain ⟨ts, hturns⟩ := List.head?_eq_some_iff.1 h
  exact ⟨w, ts, hturns, hdec⟩

theorem step_of_presents {i : Instr} {s : State} (h : Presents i s) : step s = exec i s.popTurn := by
  obtain ⟨w, ts, hturns, hdec⟩ := h
  rw [step_of_word hturns hdec, State.popTurn, hturns]
  rfl

/-- The word of a step in which an agent moves is that agent's EVT.STEP. -/
theorem presents_of_agentMoves {a : Agent} {i : Instr} {s : State} (h : agentMoves a s = true) (hi : Presents i s) :
    i = .evtStep a := by
  rcases (agentMoves_iff.1 h).1 with ⟨ts, hts⟩ | hstep
  · obtain ⟨w, ts', hturns, -⟩ := hi
    simp [hts] at hturns
  · exact presents_unique hi hstep

theorem sendMoves_iff {s : State} : sendMoves s = true ↔ Presents .strSend s ∧ s.strPh = .idle := by
  rw [presents_iff (w := 0x22000000) rfl, sendMoves, Bool.and_eq_true, decide_eq_true_eq, beq_iff_eq]

theorem rearmMoves_iff {s : State} : rearmMoves s = true ↔ Presents .snkRstcnt s ∧ s.snkPh = .idle ∧ s.rxcnt = 32 := by
  rw [presents_iff (w := 0x32000000) rfl, rearmMoves, Bool.and_eq_true, Bool.and_eq_true, decide_eq_true_eq, beq_iff_eq,
    beq_iff_eq, and_assoc]

theorem lineMoves_iff {s : State} : lineMoves s = true ↔ Presents .evtLine s := by
  rw [presents_iff (w := 0xE1000000) rfl, lineMoves, decide_eq_true_eq]

/-- An agent's move is none of the counted words. -/
theorem not_command_of_agentMoves {a : Agent} {s : State} (h : agentMoves a s = true) :
    sendMoves s = false ∧ rearmMoves s = false ∧ lineMoves s = false := by
  simp only [Bool.eq_false_iff, ne_eq, sendMoves_iff, rearmMoves_iff, lineMoves_iff]
  refine ⟨fun ⟨hp, _⟩ => ?_, fun ⟨hp, _⟩ => ?_, fun hp => ?_⟩ <;> cases presents_of_agentMoves h hp

/-- The step of an accepted STR.SEND (rule R143). -/
theorem step_of_sendMoves {s t : State} (h : sendMoves s = true) (hstep : step s = .next t) :
    t.bare = { s.bare with dr := true, regCh := 0, regBy := 0, strPh := .waitrr } := by
  obtain ⟨hp, hidle⟩ := sendMoves_iff.1 h
  rw [step_of_presents hp, exec_strSend_of_idle (s := s.popTurn) hidle] at hstep
  injection hstep with hstep
  rw [← hstep]
  rfl

/-- The step of an accepted SNK.RSTCNT (rule R197). -/
theorem step_of_rearmMoves {s t : State} (h : rearmMoves s = true) (hstep : step s = .next t) :
    t.bare = { s.bare with rxcnt := 0 } := by
  obtain ⟨hp, hidle, hfull⟩ := rearmMoves_iff.1 h
  have hpop : full s.popTurn = true := (full_iff _).2 hfull
  rw [step_of_presents hp, exec_snkRstcnt_of_idle (s := s.popTurn) hidle, if_pos hpop] at hstep
  injection hstep with hstep
  rw [← hstep]
  rfl

/-- The step of an EVT.LINE (rule R181). -/
theorem step_of_lineMoves {s t : State} (h : lineMoves s = true) (hstep : step s = .next t) :
    t.bare = { s.bare with miss := s.miss || s.tickPend, tickPend := true } := by
  rw [step_of_presents (lineMoves_iff.1 h)] at hstep
  cases htick : s.tickPend with
  | false =>
    rw [exec_evtLine_of_no_tick (s := s.popTurn) htick] at hstep
    injection hstep with hstep
    rw [← hstep, Bool.or_false]
    rfl
  | true =>
    rw [exec_evtLine_of_tick (s := s.popTurn) htick] at hstep
    injection hstep with hstep
    rw [← hstep, Bool.or_true]
    simp [State.bare, State.popTurn, htick]

/-! ## Runs from reset -/

theorem machineOk_resetRun {c : Config} (hc : c.valid = true) (ts : List Turn) : MachineOk (State.resetRun c ts) :=
  (machineOk_resetWith hc).of_bare (s := State.resetRun c ts) rfl

theorem MachineOk.after {s : State} (h : MachineOk s) (k : Nat) : MachineOk (stateAt s k) :=
  stateAt_keeps (fun _ _ hs hstep => step_keeps_ok hs hstep) h k

/-- No state of a run from a state in order stops it. -/
theorem MachineOk.step_after {s : State} (h : MachineOk s) (k : Nat) :
    step (stateAt s k) = .next (stateAt s (k + 1)) := by
  obtain ⟨t, ht⟩ := exists_step (h.after k)
  rw [stateAt_succ, nextState_of_step ht, ht]

/-- The turns still to come are of the schedule. -/
theorem all_turns_stateAt {p : Turn → Prop} {s : State} (h : ∀ t ∈ s.turns, p t) (k : Nat) :
    ∀ t ∈ (stateAt s k).turns, p t :=
  stateAt_keeps (P := fun u => ∀ t ∈ u.turns, p t)
    (fun _ _ hu hstep t ht => hu t (List.mem_of_mem_tail (step_turns hstep ▸ ht))) h k

theorem nextIsSingle_stateAt {s : State} (h : ∀ t ∈ s.turns, singleTurn t = true) (k : Nat) :
    NextIsSingle (stateAt s k) := nextIsSingle_of_all (all_turns_stateAt h k)

end Sys2Proof.Machine
end

section
/-! PROOFS. An accepted invocation receives one chunk (statement AcceptedInvocationReceivesOneChunk): the moves inside a
chunk, followed over a run by how far the chunk has come. -/

namespace Sys2Proof.Machine

theorem stepsWith_succ_toNat (p : State → Bool) (s : State) (n : Nat) :
    stepsWith p s (n + 1) = stepsWith p s n + (p (stateAt s n)).toNat := by
  rw [stepsWith_succ]
  cases p (stateAt s n) <;> rfl

/-! ## Moves and effects inside and outside a chunk -/

/-- The Receiver's part of the state is the same. -/
structure SameReceiver (s t : State) : Prop where
  snkPh : t.snkPh = s.snkPh
  rxcnt : t.rxcnt = s.rxcnt
  rb : t.rb = s.rb
  rxbins : t.rxbins = s.rxbins

/-- The schedule and the response word are no part of it. -/
theorem SameReceiver.of_bare {s t : State} (h : SameReceiver s.bare t.bare) : SameReceiver s t := ⟨h.1, h.2, h.3, h.4⟩

theorem Move.sameReceiver {a : Agent} {s t : State} (h : Move a s t) (ha : a ≠ .snk) : SameReceiver s t := by
  cases a with
  | fft => rw [h.fft_frame]; exact ⟨rfl, rfl, rfl, rfl⟩
  | str | lnk => cases h <;> exact ⟨rfl, rfl, rfl, rfl⟩
  | snk => exact absurd rfl ha

/-- The only command that reaches the Receiver is the re-arm of an idle sink with a full frame. -/
theorem Effect.sameReceiver {i : Instr} {s t : State} (h : Effect i s t) :
    SameReceiver s t ∨ (i = .snkRstcnt ∧ s.snkPh = .idle ∧ s.rxcnt = 32) := by
  cases h with
  | snkRstcnt hidle hfull => exact .inr ⟨rfl, hidle, hfull⟩
  | fftLds | fftStart | strWrb | strSend | strSetfr | snkWrfb | evtLine => exact .inl ⟨rfl, rfl, rfl, rfl⟩

theorem readsChunk_ne_idle {p : SnkPhase} (h : readsChunk p) : p ≠ .idle := by
  rintro rfl
  simp [readsChunk] at h

/-- By single turns a busy sink moves, or its Receiver's part stays. -/
theorem step_of_busy_sink {s t : State} (hsingle : NextIsSingle s) (hbusy : s.snkPh ≠ .idle)
    (hstep : step s = .next t) :
    (agentMoves .snk s = true ∧ Move .snk s.bare t.bare) ∨ (agentMoves .snk s = false ∧ SameReceiver s t) := by
  rcases step_single_cases hsingle hstep with ⟨a, ha, hmove⟩ | ⟨hnone, heq | ⟨i, -, heffect⟩⟩
  · by_cases hsnk : a = .snk
    · exact .inl ⟨hsnk ▸ ha, hsnk ▸ hmove⟩
    · exact .inr ⟨Bool.eq_false_iff.2 fun h => hsnk (agentMoves_unique ha h), (hmove.sameReceiver hsnk).of_bare⟩
  · exact .inr ⟨hnone .snk, SameReceiver.of_bare (heq ▸ ⟨rfl, rfl, rfl, rfl⟩)⟩
  · exact .inr ⟨hnone .snk, (heffect.sameReceiver.resolve_right fun h => hbusy h.2.1).of_bare⟩

theorem step_in_chunk {s t : State} (hok : MachineOk s) (hsingle : NextIsSingle s) (hchunk : readsChunk s.snkPh)
    (hstep : step s = .next t) : ChunkMove s t := by
  rcases step_of_busy_sink hsingle (readsChunk_ne_idle hchunk) hstep with ⟨-, hmove⟩ | ⟨-, hsame⟩
  · have hchunk' := hmove.in_chunk hok.bare hchunk
    exact hchunk'
  · exact .inl ⟨by rw [hsame.rxcnt, hsame.rb], hsame.snkPh ▸ hchunk⟩

/-- Before a chunk, and on a visible line, the sink receives nothing. -/
theorem Move.before_chunk {s t : State} (h : Move .snk s t)
    (hph : s.snkPh = .count ∨ s.snkPh = .syncoff ∨ s.snkPh = .emit ∨ s.snkPh = .rpoll) :
    t.rxcnt = s.rxcnt ∧ t.rxbins = s.rxbins ∧ (s.snkPh = .emit → t.snkPh = .emit ∨ t.snkPh = .idle) := by
  cases h with
  | emit h => exact ⟨rfl, rfl, fun _ => .inl h⟩
  | emitLast => exact ⟨rfl, rfl, fun _ => .inr rfl⟩
  | count h | syncoff h | accept h | decline h => exact ⟨rfl, rfl, fun he => by simp [h] at he⟩
  | syncon h | rd0 h | rdyoff h | rdn h | rdnLast h => simp [h] at hph

/-! ## One chunk over a run -/

/-- The sink's steps inside the chunk so far, RCV.POLL not counted. -/
def chunkSteps (s : State) : Nat :=
  match s.snkPh with
  | .rrdyoff => 1
  | .rrdn => s.rb.toNat + 1
  | _ => 0

/-- No bin outside the four of the chunk has changed. -/
def OtherBinsKept (s u : State) : Prop :=
  ∀ k, k < s.rxcnt.toNat ∨ s.rxcnt.toNat + 4 ≤ k → u.rxbins.read k = s.rxbins.read k

/-- Inside the chunk accepted at `s`, after `c` steps of the sink. -/
structure ChunkBegun (s : State) (c : Nat) (u : State) : Prop where
  phase : readsChunk u.snkPh
  count : u.rxcnt.toNat = s.rxcnt.toNat + u.rb.toNat
  steps : c = 1 + chunkSteps u
  bins : OtherBinsKept s u

/-- At the end of the chunk accepted at `s`, after `c` steps of the sink. -/
structure ChunkEnded (s : State) (c : Nat) (u : State) : Prop where
  phase : u.snkPh = .idle
  count : u.rxcnt.toNat = s.rxcnt.toNat + 4
  steps : c = 6
  bins : OtherBinsKept s u

theorem OtherBinsKept.byteTaken {s u : State} (h : OtherBinsKept s u) (hmem : MemoriesOk u)
    (hcnt : u.rxcnt.toNat = s.rxcnt.toNat + u.rb.toNat) (hrb : u.rb.toNat < 4) (b : Byte) (rest : List Byte) :
    OtherBinsKept s (byteTaken b rest u) := fun k hk => by
  rw [read_byteTaken hmem, if_neg (by omega)]
  exact h k hk

theorem ChunkBegun.move {s u v : State} {c : Nat} (h : ChunkBegun s c u) (hok : MachineOk u) (hmove : Move .snk u v) :
    ChunkBegun s (c + 1) v ∨ ChunkEnded s (c + 1) v := by
  obtain ⟨hphase, hcount, hsteps, hbins⟩ := h
  have hcounts := hmove.in_chunk hok hphase
  cases hmove with
  | @rd0 _ b rest hph hq =>
    have hrb : u.rb = 0 := hok.receiver.rb_eq_zero (by simp [hph]) (by simp [hph])
    rcases hcounts with ⟨hcnt, hchunk⟩ | ⟨hn, -⟩
    · refine .inl ⟨hchunk, by omega, ?_, hbins.byteTaken hok.memories hcount (by simp [hrb]) b rest⟩
      simp [hsteps, chunkSteps, hph]
    · simp [hph] at hn
  | rdyoff hph =>
    have hrb : u.rb = 1 := hok.receiver.rb_at_rrdyoff hph
    exact .inl ⟨.inr (.inr rfl), hcount, by simp [hsteps, chunkSteps, hph, hrb], hbins⟩
  | @rdn _ b rest hph hq hrb =>
    obtain ⟨-, -, hrb4⟩ := hok.receiver.at_rrdn hph
    have hsucc : (u.rb + 1).toNat = u.rb.toNat + 1 := toNat_add_one (by omega)
    rcases hcounts with ⟨hcnt, hchunk⟩ | ⟨-, -, hidle, -⟩
    · refine .inl ⟨hchunk, by omega, ?_, hbins.byteTaken hok.memories hcount hrb4 b rest⟩
      simp only [hsteps, chunkSteps, hph, byteTaken, hsucc]
      omega
    · simp [byteTaken, hph] at hidle
  | @rdnLast _ b rest hph hq hrb =>
    have hrb3 := (rb_add_one_eq_four_iff _).1 hrb
    rcases hcounts with ⟨-, hchunk⟩ | ⟨-, -, hidle, hcnt⟩
    · simp [readsChunk] at hchunk
    · refine .inr ⟨hidle, by omega, ?_, hbins.byteTaken hok.memories hcount (by omega) b rest⟩
      simp only [hsteps, chunkSteps, hph]
      omega
  | syncon hph | count hph | syncoff hph | emit hph | emitLast hph | accept hph | decline hph =>
    simp [readsChunk, hph] at hphase

theorem ChunkBegun.of_same {s u v : State} {c : Nat} (h : ChunkBegun s c u) (hsame : SameReceiver u v) :
    ChunkBegun s c v := by
  obtain ⟨hphase, hcount, hsteps, hbins⟩ := h
  refine ⟨hsame.snkPh ▸ hphase, by rw [hsame.rxcnt, hsame.rb, hcount], ?_, fun k hk => hsame.rxbins ▸ hbins k hk⟩
  rw [hsteps, chunkSteps, chunkSteps, hsame.snkPh, hsame.rb]

theorem acceptMoves_iff {s : State} :
    acceptMoves s = true ↔ agentMoves .snk s = true ∧ s.snkPh = .rpoll ∧ s.dr = true ∧ s.rxcnt.toNat < 32 := by
  simp [acceptMoves, and_assoc]

/-- An accepting poll begins a chunk (rule R154). -/
theorem Move.begins_chunk {s t : State} (h : Move .snk s t) (hph : s.snkPh = .rpoll) (hdr : s.dr = true)
    (hcnt : s.rxcnt.toNat < 32) : ChunkBegun s 1 t := by
  cases h with
  | accept => exact ⟨.inl rfl, rfl, rfl, fun _ _ => rfl⟩
  | decline _ hno => exact absurd ⟨hdr, hcnt⟩ hno
  | syncon h | count h | syncoff h | emit h | emitLast h | rd0 h | rdyoff h | rdn h | rdnLast h =>
    cases hph.symm.trans h

/-- The schedule and the response word are no part of it. -/
theorem ChunkBegun.of_bare {s t : State} {c : Nat} (h : ChunkBegun s.bare c t.bare) : ChunkBegun s c t :=
  ⟨h.1, h.2, h.3, h.4⟩

theorem chunkBegun_of_accept {s t : State} (hsingle : NextIsSingle s) (h : acceptMoves s = true)
    (hstep : step s = .next t) : ChunkBegun s 1 t := by
  obtain ⟨ha, hph, hdr, hcnt⟩ := acceptMoves_iff.1 h
  rcases step_of_busy_sink hsingle (by simp [hph]) hstep with ⟨-, hmove⟩ | ⟨hno, -⟩
  · exact (hmove.begins_chunk hph hdr hcnt).of_bare
  · simp [ha] at hno

/-- From the accepting step to the sink's next idle state. -/
theorem chunk_of_accept {s : State} (hok : MachineOk s) (hsingle : ∀ u ∈ s.turns, singleTurn u = true)
    (haccept : acceptMoves s = true) (n : Nat) (hbusy : ∀ k < n + 1, (stateAt s k).snkPh ≠ .idle) :
    ChunkBegun s (stepsWith (agentMoves .snk) s (n + 1)) (stateAt s (n + 1)) ∨
    ChunkEnded s (stepsWith (agentMoves .snk) s (n + 1)) (stateAt s (n + 1)) := by
  induction n with
  | zero =>
    rw [stepsWith_succ_toNat, stateAt_zero, (acceptMoves_iff.1 haccept).1]
    exact .inl (chunkBegun_of_accept (nextIsSingle_of_all hsingle) haccept (hok.step_after 0))
  | succ n ih =>
    have hbegun := (ih fun k hk => hbusy k (by omega)).resolve_right fun hended =>
      hbusy (n + 1) (by omega) hended.phase
    rw [stepsWith_succ_toNat]
    rcases step_of_busy_sink (nextIsSingle_stateAt hsingle (n + 1)) (hbusy (n + 1) (by omega))
      (hok.step_after (n + 1)) with ⟨ha, hmove⟩ | ⟨hno, hsame⟩
    · rw [ha]
      have hbare : ChunkBegun s _ (stateAt s (n + 1)).bare := ⟨hbegun.1, hbegun.2, hbegun.3, hbegun.4⟩
      exact (hbare.move (hok.after (n + 1)).bare hmove).imp (fun h => ⟨h.1, h.2, h.3, h.4⟩)
        fun h => ⟨h.1, h.2, h.3, h.4⟩
    · rw [hno]
      exact .inl (hbegun.of_same hsame)

/-! ## Counting chunks from reset -/

/-- The bytes of a chunk that has begun, as the statement counts them. -/
def chunkTotal (s : State) : Nat := if s.snkPh = .rrd0 ∨ s.snkPh = .rrdyoff ∨ s.snkPh = .rrdn then 4 else 0

theorem chunkTotal_of_chunk {s : State} (h : readsChunk s.snkPh) : chunkTotal s = 4 := if_pos h

theorem chunkTotal_of_outside {s : State} (h : ¬readsChunk s.snkPh) : chunkTotal s = 0 := if_neg h

/-- The next sink step, if it is one, begins a chunk (rule R154). -/
def pollAccepts (s : State) : Prop := s.snkPh = .rpoll ∧ s.dr = true ∧ s.rxcnt.toNat < 32

theorem not_readsChunk_afterSyncoff (s : State) : ¬readsChunk (afterSyncoff s) := by
  rcases afterSyncoff_cases s with ⟨-, h⟩ | ⟨-, h | h⟩ <;> simp [readsChunk, h]

/-- Outside a chunk a move of the sink begins one, or receives nothing and stays outside. -/
theorem Move.outside_chunk {s t : State} (hout : ¬readsChunk s.snkPh) (h : Move .snk s t) :
    t.rxcnt = s.rxcnt ∧ ((pollAccepts s ∧ readsChunk t.snkPh ∧ t.rb = 0) ∨
      (¬pollAccepts s ∧ ¬readsChunk t.snkPh ∧ t.rb = s.rb)) := by
  have notPoll (hph : s.snkPh ≠ .rpoll) : ¬pollAccepts s := fun h => hph h.1
  cases h with
  | accept hph hdr hcnt => exact ⟨rfl, .inl ⟨⟨hph, hdr, hcnt⟩, .inl rfl, rfl⟩⟩
  | decline hph hno => exact ⟨rfl, .inr ⟨fun h => hno h.2, by simp [readsChunk], rfl⟩⟩
  | syncoff hph => exact ⟨rfl, .inr ⟨notPoll (by simp [hph]), not_readsChunk_afterSyncoff s, rfl⟩⟩
  | syncon hph | count hph | emit hph | emitLast hph =>
    exact ⟨rfl, .inr ⟨notPoll (by simp [hph]), by simp [readsChunk, hph], rfl⟩⟩
  | rd0 hph | rdyoff hph | rdn hph | rdnLast hph => simp [readsChunk, hph] at hout

/-- A move of the sink adds a chunk to the count where it begins one, and else leaves the balance as it is. -/
theorem Move.sink_balance {s t : State} (hok : MachineOk s) (h : Move .snk s t) {c : Nat}
    (hyes : pollAccepts s → c = 1) (hno : ¬pollAccepts s → c = 0) :
    t.rxcnt.toNat + chunkTotal t + s.rb.toNat = s.rxcnt.toNat + chunkTotal s + t.rb.toNat + 4 * c := by
  by_cases hchunk : readsChunk s.snkPh
  · have hc : c = 0 := hno fun ⟨hph, _⟩ => by simp [readsChunk, hph] at hchunk
    rw [chunkTotal_of_chunk hchunk]
    rcases h.in_chunk hok hchunk with ⟨hcnt, hchunk'⟩ | ⟨hn, hrb, hidle, hcnt⟩
    · rw [chunkTotal_of_chunk hchunk']
      omega
    · have hrb' : t.rb = 0 := (h.proper hok).ok.receiver.rb_eq_zero (by simp [hidle]) (by simp [hidle])
      rw [chunkTotal_of_outside (by simp [readsChunk, hidle]), hrb']
      simp only [hrb, BitVec.ofNat_eq_ofNat, BitVec.toNat_ofNat] at hcnt ⊢
      omega
  · rw [chunkTotal_of_outside hchunk]
    obtain ⟨hcnt, ⟨hpoll, hchunk', hrb⟩ | ⟨hpoll, hout, hrb⟩⟩ := h.outside_chunk hchunk
    · have hrb0 : s.rb = 0 := hok.receiver.rb_eq_zero (by simp [hpoll.1]) (by simp [hpoll.1])
      rw [chunkTotal_of_chunk hchunk', hcnt, hrb, hrb0, hyes hpoll]
      rfl
    · rw [chunkTotal_of_outside hout, hcnt, hrb, hno hpoll]
      rfl

/-- One step of the count over a run. -/
theorem step_balance {s t : State} (hok : MachineOk s) (hsingle : NextIsSingle s) (hstep : step s = .next t) :
    32 * (rearmMoves s).toNat + t.rxcnt.toNat + chunkTotal t + s.rb.toNat =
      s.rxcnt.toNat + chunkTotal s + t.rb.toNat + 4 * (acceptMoves s).toNat := by
  have same (h : SameReceiver s t) : t.rxcnt.toNat + chunkTotal t + s.rb.toNat =
      s.rxcnt.toNat + chunkTotal s + t.rb.toNat := by
    rw [chunkTotal, chunkTotal, h.snkPh, h.rxcnt, h.rb]
  have notAccept (h : agentMoves .snk s = false) : acceptMoves s = false := by simp [acceptMoves, h]
  by_cases hrearm : rearmMoves s = true
  · obtain ⟨hpres, hidle, hfull⟩ := rearmMoves_iff.1 hrearm
    have hno : agentMoves .snk s = false := by
      by_contra hmoves
      cases presents_of_agentMoves (by simpa using hmoves) hpres
    have hbare := step_of_rearmMoves hrearm hstep
    have hcnt : t.rxcnt = 0 := by have h := congrArg State.rxcnt hbare; exact h
    have hph : t.snkPh = s.snkPh := by have h := congrArg State.snkPh hbare; exact h
    have hrb : t.rb = s.rb := by have h := congrArg State.rb hbare; exact h
    rw [hrearm, notAccept hno, chunkTotal, chunkTotal, hph, hcnt, hrb, hfull]
    simp
  have hrearm' : rearmMoves s = false := by simpa using hrearm
  rw [hrearm']
  rcases step_single_cases hsingle hstep with ⟨a, ha, hmove⟩ | ⟨hnone, heq | ⟨i, hpres, heffect⟩⟩
  · by_cases hsnk : a = .snk
    · subst hsnk
      have hbalance : t.rxcnt.toNat + chunkTotal t + s.rb.toNat =
          s.rxcnt.toNat + chunkTotal s + t.rb.toNat + 4 * (acceptMoves s).toNat := by
        refine hmove.sink_balance hok.bare (fun hyes => ?_) fun hno => ?_
        · rw [acceptMoves_iff.2 ⟨ha, hyes⟩]; rfl
        · rw [Bool.eq_false_iff.2 fun h : acceptMoves s = true => hno (acceptMoves_iff.1 h).2]; rfl
      simpa using hbalance
    · rw [notAccept (Bool.eq_false_iff.2 fun h => hsnk (agentMoves_unique ha h))]
      simpa using same (hmove.sameReceiver hsnk).of_bare
  · rw [notAccept (hnone .snk)]
    simpa using same (SameReceiver.of_bare (heq ▸ ⟨rfl, rfl, rfl, rfl⟩))
  · rw [notAccept (hnone .snk)]
    have hsame := heffect.sameReceiver.resolve_right fun ⟨hi, hidle, hfull⟩ =>
      hrearm (rearmMoves_iff.2 ⟨hi ▸ hpres, hidle, hfull⟩)
    simpa using same hsame.of_bare

/-- Settles O59: the chunk's moves one by one, from its poll to its last byte, and counted over a run. -/
theorem acceptedInvocationReceivesOneChunk : Obligations.AcceptedInvocationReceivesOneChunk := by
  refine ⟨fun s t hok hsingle => step_in_chunk hok (nextIsSingle_of_all hsingle),
    fun s n hok hsingle haccept hn hbusy hidle => ?_, fun s t hok hsingle hph hstep => ?_,
    fun s hok haccept => ?_, fun c ts n s hc hsingle hs => ?_⟩
  · obtain ⟨m, rfl⟩ : ∃ m, n = m + 1 := ⟨n - 1, by omega⟩
    rcases chunk_of_accept hok hsingle haccept m hbusy with hbegun | hended
    · exact absurd hidle (readsChunk_ne_idle hbegun.phase)
    · exact ⟨hended.count, hended.steps, hended.bins⟩
  · have hbusy : s.snkPh ≠ .idle := by rcases hph with h | h | h | h <;> simp [h]
    rcases step_of_busy_sink (nextIsSingle_of_all hsingle) hbusy hstep with ⟨-, hmove⟩ | ⟨-, hsame⟩
    · have hbefore := hmove.before_chunk hph
      exact hbefore
    · exact ⟨hsame.rxcnt, hsame.rxbins, fun he => .inl (hsame.snkPh.trans he)⟩
  · obtain ⟨-, hph, hdr, -⟩ := acceptMoves_iff.1 haccept
    exact ⟨hdr, hok.raster.not_visible_at_rpoll hph⟩
  · subst hs
    have hok := machineOk_resetRun hc ts
    change 32 * _ + _ + chunkTotal _ = _
    induction n with
    | zero => rfl
    | succ n ih =>
      have hstep := step_balance (hok.after n) (nextIsSingle_stateAt hsingle n) (hok.step_after n)
      rw [stepsWith_succ_toNat rearmMoves, stepsWith_succ_toNat acceptMoves]
      omega

end Sys2Proof.Machine
end

section
/-! PROOFS. EVT.SETTLE (statement SettleWordRunsToQuiescence): a round that takes a step leaves fewer steps of the two
nodes and the link to take, or is the FFT sequencer's only one, so the rounds end below the model's fuel. -/

namespace Sys2Proof

theorem decode_evtSettle_word {w : PortWord} (hu : unitField w = 0xE) (ho : opField w = 4) :
    decode (.word w) = if w = 0xE4000000 then .ok .evtSettle else .error .fieldNotZero := by
  rw [decode_word_of_unit_evt hu, ho]
  exact need_no_operands hu ho .evtSettle

end Sys2Proof

namespace Sys2Proof.Machine

/-! ## Steps outside the FFT unit -/

/-- Steps of the Streamer up to the end of its frame, with LNK's two for each byte that it still pushes. -/
def frameStepsLeft (s : State) : Nat :=
  match s.strPh with
  | .idle => 0
  | .waitrr => 3 * (32 - pushIndex s) + (8 - s.regCh.toNat) + 1
  | .push => 3 * (32 - pushIndex s) + (7 - s.regCh.toNat) + 1
  | .waittxc => 1

/-- A bound on the steps of the Streamer, LNK and the sink together. -/
def settleLeft (s : State) : Nat := frameStepsLeft s + lnkStepsLeft s + stepsLeft .snk s

theorem settleLeft_lt {s : State} (h : MachineOk s) : settleLeft s + 1 < settleFuel := by
  obtain ⟨-, -, -, -, -, -, -, hbpr⟩ := config_bounds_of_valid h.config
  have hsnk : stepsLeft .snk s ≤ 515 := by
    simp only [stepsLeft, invocationStepsLeft]
    cases s.snkPh <;> simp only <;> split <;> omega
  have hlnk : lnkStepsLeft s ≤ 3 := by
    rw [lnkStepsLeft]
    cases s.thr <;> cases s.tsr <;> simp
  have hframe : frameStepsLeft s ≤ 105 := by
    rw [frameStepsLeft]
    cases s.strPh <;> simp only <;> omega
  rw [settleLeft, settleFuel]
  omega

theorem Move.frame_fewer {s t : State} (hok : MachineOk s) (h : Move .str s t) :
    frameStepsLeft t + lnkStepsLeft t < frameStepsLeft s + lnkStepsLeft s := by
  cases h with
  | waitrr hph =>
    obtain ⟨hBy, hCh⟩ := hok.streamer.at_waitrr hph
    simp only [frameStepsLeft, hph, lnkStepsLeft, pushIndex]
    omega
  | push hph hthr hBy =>
    have hCh := hok.streamer.at_push hph
    have hsucc : (s.regBy + 1).toNat = s.regBy.toNat + 1 := by bv_omega
    simp only [frameStepsLeft, hph, lnkStepsLeft, pushIndex, hthr, hsucc, Option.toList_some, Option.toList_none,
      List.length_singleton, List.length_nil]
    omega
  | pushChunk hph hthr hBy hCh =>
    have hCh8 := hok.streamer.at_push hph
    have hsucc : (s.regCh + 1).toNat = s.regCh.toNat + 1 := toNat_add_one (by omega)
    have hBy3 : s.regBy.toNat = 3 := by rw [hBy]; rfl
    have hBy0 : (0 : BitVec 2).toNat = 0 := rfl
    simp only [frameStepsLeft, hph, lnkStepsLeft, pushIndex, hthr, hBy3, hBy0, hsucc, Option.toList_some,
      Option.toList_none, List.length_singleton, List.length_nil]
    omega
  | pushFrame hph hthr hBy hCh =>
    have hCh8 := hok.streamer.at_push hph
    simp only [frameStepsLeft, hph, lnkStepsLeft, pushIndex, hthr, hBy, Option.toList_some, Option.toList_none,
      List.length_singleton, List.length_nil, BitVec.ofNat_eq_ofNat, BitVec.toNat_ofNat]
    omega
  | fin hph hthr htsr => simp [frameStepsLeft, hph, lnkStepsLeft]

/-- A move outside the FFT unit is one of the steps bounded, and keeps the FFT unit's phase. -/
theorem Move.settle_fewer {a : Agent} {s t : State} (hok : MachineOk s) (h : Move a s t) (ha : a ≠ .fft) :
    settleLeft t < settleLeft s ∧ t.fftPh = s.fftPh := by
  cases a with
  | fft => exact absurd rfl ha
  | str =>
    have hframe := h.frame_fewer hok
    have hsnk : stepsLeft .snk t = stepsLeft .snk s := by cases h <;> rfl
    refine ⟨by rw [settleLeft, settleLeft, hsnk]; omega, by cases h <;> rfl⟩
  | lnk =>
    have hfewer := (h.proper hok).fewer
    have hframe : frameStepsLeft t = frameStepsLeft s := by cases h <;> rfl
    have hsnk : stepsLeft .snk t = stepsLeft .snk s := by cases h <;> rfl
    refine ⟨?_, by cases h <;> rfl⟩
    rw [settleLeft, settleLeft, hsnk, hframe]
    exact Nat.add_lt_add_right (Nat.add_lt_add_left hfewer _) _
  | snk =>
    have hfewer := (h.proper hok).fewer
    have hframe : frameStepsLeft t = frameStepsLeft s := by cases h <;> rfl
    have hlnk : lnkStepsLeft t = lnkStepsLeft s := by cases h <;> rfl
    refine ⟨?_, by cases h <;> rfl⟩
    rw [settleLeft, settleLeft, hlnk, hframe]
    omega

theorem Move.settleLeft_of_fft {s t : State} (h : Move .fft s t) : settleLeft t = settleLeft s := by
  rw [h.fft_frame]
  rfl

theorem TakesSteps.settle_fewer {a : Agent} {n : Nat} {s t : State} (hok : MachineOk s) (h : TakesSteps a n s t)
    (ha : a ≠ .fft) : settleLeft t + n ≤ settleLeft s ∧ t.fftPh = s.fftPh := by
  induction n generalizing s with
  | zero => rw [TakesSteps] at h; exact h ▸ ⟨Nat.le_refl _, rfl⟩
  | succ n ih =>
    obtain ⟨he, u, hu, hrest⟩ := h
    have hmove := stepAgent_move he hu
    obtain ⟨hfewer, hph⟩ := hmove.settle_fewer hok ha
    obtain ⟨hle, hph'⟩ := ih (hmove.proper hok).ok hrest
    exact ⟨by omega, hph'.trans hph⟩

theorem TakesSteps.settleLeft_of_fft {n : Nat} {s t : State} (h : TakesSteps .fft n s t) :
    settleLeft t = settleLeft s := by
  induction n generalizing s with
  | zero => rw [TakesSteps] at h; rw [h]
  | succ n ih =>
    obtain ⟨he, u, hu, hrest⟩ := h
    exact (ih hrest).trans (stepAgent_move he hu).settleLeft_of_fft

/-! ## Rounds -/

/-- A bound on the rounds that take a step: the FFT sequencer runs out in the first of them. -/
def roundsLeft (s : State) : Nat := settleLeft s + if s.fftPh = .idle then 0 else 1

theorem fft_idle_of_disabled {s : State} (h : agentEnabled .fft s = false) : s.fftPh = .idle := by
  have hno := mt (agentEnabled_fft s).2 (Bool.eq_false_iff.1 h)
  cases hph : s.fftPh <;> simp [hph] at hno ⊢

/-- A round with a step leaves fewer rounds. -/
theorem TakesRound.fewer {n : Nat} {s t : State} (hok : MachineOk s) (h : TakesRound n s t) (hn : 0 < n) :
    roundsLeft t < roundsLeft s := by
  obtain ⟨a, b, c, d, u, v, w, hstr, -, hlnk, -, hsnk, -, hfft, hend, rfl⟩ := h
  have hoku := hok.of_takesSteps hstr
  have hokv := hoku.of_takesSteps hlnk
  obtain ⟨hle1, hph1⟩ := hstr.settle_fewer hok (by simp)
  obtain ⟨hle2, hph2⟩ := hlnk.settle_fewer hoku (by simp)
  obtain ⟨hle3, hph3⟩ := hsnk.settle_fewer hokv (by simp)
  have hle4 := hfft.settleLeft_of_fft
  rw [roundsLeft, roundsLeft, if_pos (fft_idle_of_disabled hend)]
  by_cases hidle : s.fftPh = .idle
  · have hd : d = 0 := by
      cases d with
      | zero => rfl
      | succ d =>
        have he := (agentEnabled_fft w).1 hfft.1
        rw [hph3, hph2, hph1, hidle] at he
        simp at he
    omega
  · rw [if_neg hidle]
    omega

/-- In a round without a step no agent is enabled. -/
theorem TakesRound.allHold {s t : State} (h : TakesRound 0 s t) : t = s ∧ AllHold s := by
  obtain ⟨a, b, c, d, u, v, w, hstr, hstr', hlnk, hlnk', hsnk, hsnk', hfft, hfft', hsum⟩ := h
  obtain ⟨⟨⟨rfl, rfl⟩, rfl⟩, rfl⟩ : ((a = 0 ∧ b = 0) ∧ c = 0) ∧ d = 0 := by omega
  rw [TakesSteps] at hstr hlnk hsnk hfft
  subst hstr hlnk hsnk hfft
  exact ⟨rfl, hfft', hstr', hsnk', hlnk'⟩

/-- What a round has done when it answers `(t, n)`. -/
structure ProperRound (s t : State) (n : Nat) : Prop where
  round : TakesRound n s t
  ok : MachineOk t

theorem settleRound_proper {s : State} (h : MachineOk s) : ∃ t n, settleRound s = .next (t, n) ∧ ProperRound s t n := by
  obtain ⟨u, a, hrun1, hr1⟩ := runAgent_runFuel h .str
  obtain ⟨v, b, hrun2, hr2⟩ := runAgent_runFuel hr1.ok .lnk
  obtain ⟨w, c, hrun3, hr3⟩ := runAgent_runFuel hr2.ok .snk
  obtain ⟨t, d, hrun4, hr4⟩ := runAgent_runFuel hr3.ok .fft
  refine ⟨t, d + (c + (b + a)), ?_, ⟨a, b, c, d, u, v, w, hr1.steps, hr1.holds, hr2.steps, hr2.holds, hr3.steps,
    hr3.holds, hr4.steps, hr4.holds, by omega⟩, hr4.ok⟩
  simp only [settleRound, runNext, hrun1, hrun2, hrun3, hrun4, andThen, addSteps]

/-- With fuel for the rounds left, EVT.SETTLE ends in quiescence. -/
theorem settleRounds_ends {fuel : Nat} {s : State} (h : MachineOk s) (hfuel : roundsLeft s < fuel) :
    ∃ k n t, settleRounds fuel s = .next (t, n) ∧ TakesRounds k n s t ∧ AllHold t := by
  induction fuel generalizing s with
  | zero => omega
  | succ fuel ih =>
    obtain ⟨u, m, hround, hproper⟩ := settleRound_proper h
    rcases Nat.eq_zero_or_pos m with rfl | hm
    · obtain ⟨rfl, hhold⟩ := hproper.round.allHold
      exact ⟨0, 0, u, by simp only [settleRounds, hround, andThen, if_true], ⟨rfl, rfl⟩, hhold⟩
    · have hfewer := hproper.round.fewer h hm
      obtain ⟨k, n, t, hrest, hrounds, hhold⟩ := ih hproper.ok (by omega)
      refine ⟨k + 1, m + n, t, ?_, ⟨m, n, u, hproper.round, hm, hrounds, rfl⟩, hhold⟩
      rw [settleRounds, hround, andThen, if_neg (by simpa using hm.ne'), hrest, andThen, addSteps, Nat.add_comm]

/-- Settles O22: the word is the only one of its operation, and the rounds left are below the model's fuel. -/
theorem settleWordRunsToQuiescence : Obligations.SettleWordRunsToQuiescence := by
  refine ⟨fun w => decode_evtSettle_word, fun s h => ?_⟩
  have hfuel : roundsLeft s < settleFuel := by
    have hlt := settleLeft_lt h
    rw [roundsLeft]
    split_ifs <;> omega
  obtain ⟨k, n, t, hrun, hrounds, hhold⟩ := settleRounds_ends h hfuel
  refine ⟨k, n, t, hrounds, hhold, ?_⟩
  simp [exec, execEvtSettle, hrun, andThen, ackWith, State.respond, countData]

end Sys2Proof.Machine
end

section
/-! PROOFS. Framing (statement FramesArriveWholeAndInOrder): the place in the stream of all frames is kept by every move
that loses no byte, and advances by the bytes pushed and received. -/

namespace Sys2Proof.Machine

/-! ## The stream's place, read off the state -/

theorem received_eq_iff {s : State} {g : Nat → Byte} :
    received s = (List.range s.rxcnt.toNat).map g ↔ ∀ k < s.rxcnt.toNat, s.rxbins.read k = g k := by
  rw [received, List.map_inj_left]
  simp only [List.mem_range]

/-- The place depends only on the counters, the bytes on the way and received, and the frame being pushed. -/
theorem Streamed.congr {f : Nat → Byte} {p r : Nat} {s t : State} (h : Streamed f p r s) (hcnt : t.rxcnt = s.rxcnt)
    (hidx : pushIndex t = pushIndex s) (hfl : inFlight t = inFlight s) (hrx : t.rxbins = s.rxbins)
    (htx : t.strPh ≠ .idle → s.strPh ≠ .idle ∧ t.txbins = s.txbins) : Streamed f p r t := by
  obtain ⟨hle, hcntle, hidxle, hr, hp, hflight, hrec, hframe⟩ := h
  have hreceived : received t = received s := by rw [received, received, hcnt, hrx]
  rw [Streamed, hcnt, hidx, hfl, hreceived]
  refine ⟨hle, hcntle, hidxle, hr, hp, hflight, hrec, fun hbusy => ?_⟩
  obtain ⟨hbusy', htx'⟩ := htx hbusy
  exact htx' ▸ hframe hbusy'

/-- From the place of one state to that of a later one, by the bytes pushed and received in between. -/
structure Advance (f : Nat → Byte) (p r : Nat) (s : State) (p' r' : Nat) (t : State) : Prop where
  streamed : Streamed f p' r' t
  pushed : p' + pushIndex s = p + pushIndex t
  received : r' + s.rxcnt.toNat = r + t.rxcnt.toNat
  pushed_le : p ≤ p'
  received_le : r ≤ r'

theorem Advance.trans {f : Nat → Byte} {p r p' r' p'' r'' : Nat} {s t u : State} (h : Advance f p r s p' r' t)
    (h' : Advance f p' r' t p'' r'' u) : Advance f p r s p'' r'' u := by
  obtain ⟨-, hp, hr, hple, hrle⟩ := h
  obtain ⟨hst, hp', hr', hple', hrle'⟩ := h'
  exact ⟨hst, by omega, by omega, by omega, by omega⟩

theorem Streamed.advance_of_same {f : Nat → Byte} {p r : Nat} {s t : State} (h : Streamed f p r s)
    (hcnt : t.rxcnt = s.rxcnt) (hidx : pushIndex t = pushIndex s) (hfl : inFlight t = inFlight s)
    (hrx : t.rxbins = s.rxbins) (htx : t.strPh ≠ .idle → s.strPh ≠ .idle ∧ t.txbins = s.txbins) :
    Advance f p r s p r t :=
  ⟨h.congr hcnt hidx hfl hrx htx, by rw [hidx], by rw [hcnt], Nat.le_refl _, Nat.le_refl _⟩

/-! ## One byte pushed, one byte received -/

/-- A byte of the frame goes into `THR` (rule R148). -/
theorem Streamed.advance_of_push {f : Nat → Byte} {p r : Nat} {s t : State} (h : Streamed f p r s)
    (hph : s.strPh = .push) (hlt : pushIndex s < 32) (hthr : s.thr = none)
    (hcnt : t.rxcnt = s.rxcnt) (hidx : pushIndex t = pushIndex s + 1)
    (hfl : inFlight t = s.rxq ++ s.tsr.toList ++ [s.txbins.read (pushIndex s)]) (hrx : t.rxbins = s.rxbins)
    (htx : t.txbins = s.txbins) : Advance f p r s (p + 1) r t := by
  obtain ⟨hle, hcntle, hidxle, hr, hp, hflight, hrec, hframe⟩ := h
  have hsub : p + 1 - (pushIndex s + 1) = p - pushIndex s := by omega
  have hbyte : s.txbins.read (pushIndex s) = f p := by
    rw [hframe (by simp [hph]) _ hlt, Nat.sub_add_cancel hidxle]
  have hflight' : inFlight t = (List.range (p + 1 - r)).map fun k => f (r + k) := by
    have hold : s.rxq ++ s.tsr.toList = (List.range (p - r)).map fun k => f (r + k) := by
      simpa [inFlight, hthr] using hflight
    rw [hfl, hbyte, hold, Nat.succ_sub hle, List.range_succ, List.map_append, List.map_singleton,
      Nat.add_sub_cancel' hle]
  have hreceived : received t = received s := by rw [received, received, hcnt, hrx]
  refine ⟨⟨by omega, hcnt ▸ hcntle, by omega, hcnt ▸ hr, by rw [hidx, hsub]; exact hp, hflight', ?_, fun _ => ?_⟩,
    by omega, by rw [hcnt], by omega, Nat.le_refl _⟩
  · rw [hreceived, hcnt]
    exact hrec
  · rw [htx, hidx, hsub]
    exact hframe (by simp [hph])

/-- The head of the queue goes to `RXBINS[RXCNT]` (rules R155, R157). -/
theorem Streamed.advance_of_take {f : Nat → Byte} {p r : Nat} {s t : State} {b : Byte} {rest : List Byte}
    (h : Streamed f p r s) (hmem : MemoriesOk s) (hlt : s.rxcnt.toNat < 32) (hq : s.rxq = b :: rest)
    (hcnt : t.rxcnt = s.rxcnt + 1) (hidx : pushIndex t = pushIndex s)
    (hfl : inFlight t = rest ++ s.tsr.toList ++ s.thr.toList) (hrx : t.rxbins = (byteTaken b rest s).rxbins)
    (htx : t.strPh = s.strPh ∧ t.txbins = s.txbins) : Advance f p r s p (r + 1) t := by
  obtain ⟨hle, hcntle, hidxle, hr, hp, hflight, hrec, hframe⟩ := h
  have hcnt' : t.rxcnt.toNat = s.rxcnt.toNat + 1 := by rw [hcnt]; exact toNat_add_one (by omega)
  have hsub : r + 1 - (s.rxcnt.toNat + 1) = r - s.rxcnt.toNat := by omega
  have hall : b :: inFlight t = (List.range (p - r)).map fun k => f (r + k) := by
    rw [← hflight, hfl, inFlight, hq]
    rfl
  obtain ⟨m, hm⟩ : ∃ m, p - r = m + 1 := by
    refine Nat.exists_eq_succ_of_ne_zero fun h0 => ?_
    simp [h0] at hall
  rw [hm, List.range_succ_eq_map, List.map_cons, List.map_map, List.cons.injEq] at hall
  obtain ⟨hb, hrest⟩ := hall
  have hflight' : inFlight t = (List.range (p - (r + 1))).map fun k => f (r + 1 + k) := by
    rw [hrest, show p - (r + 1) = m by omega]
    refine List.map_congr_left fun k _ => ?_
    simp only [Function.comp_apply]
    congr 1
    omega
  refine ⟨⟨by omega, by omega, by omega, by rw [hcnt', hsub]; exact hr, by rw [hidx]; exact hp, hflight', ?_, ?_⟩,
    by omega, by omega, Nat.le_refl _, by omega⟩
  · rw [received_eq_iff] at hrec ⊢
    intro k hk
    rw [hrx, read_byteTaken hmem, hcnt', hsub]
    split_ifs with hlast
    · rw [hb, hlast, Nat.add_zero, Nat.sub_add_cancel hcntle]
    · exact hrec k (by omega)
  · rw [htx.1, htx.2, hidx]
    exact hframe

theorem pushIndex_lt {s : State} (hok : MachineOk s) (hph : s.strPh = .push) : pushIndex s < 32 := by
  have hCh := hok.streamer.at_push hph
  have hBy := s.regBy.isLt
  rw [pushIndex]
  omega

/-- A move that loses no byte keeps the stream. -/
theorem Streamed.move {f : Nat → Byte} {p r : Nat} {a : Agent} {s t : State} (hok : MachineOk s)
    (h : Streamed f p r s) (hmove : Move a s t) (hovr : t.ovr = false) : ∃ p' r', Advance f p r s p' r' t := by
  cases a with
  | fft =>
    rw [hmove.fft_frame]
    exact ⟨p, r, h.advance_of_same rfl rfl rfl rfl fun hbusy => ⟨hbusy, rfl⟩⟩
  | str =>
    cases hmove with
    | waitrr hph => exact ⟨p, r, h.advance_of_same rfl rfl rfl rfl fun _ => ⟨by simp [hph], rfl⟩⟩
    | push hph hthr hBy =>
      have hsucc : (s.regBy + 1).toNat = s.regBy.toNat + 1 := by bv_omega
      refine ⟨p + 1, r, h.advance_of_push hph (pushIndex_lt hok hph) hthr rfl ?_ rfl rfl rfl⟩
      simp only [pushIndex, hsucc, Nat.add_assoc]
    | pushChunk hph hthr hBy | pushFrame hph hthr hBy =>
      have hCh := hok.streamer.at_push hph
      have hsucc : (s.regCh + 1).toNat = s.regCh.toNat + 1 := toNat_add_one (by omega)
      have hBy3 : s.regBy.toNat = 3 := by rw [hBy]; rfl
      refine ⟨p + 1, r, h.advance_of_push hph (pushIndex_lt hok hph) hthr rfl ?_ rfl rfl rfl⟩
      have hBy0 : (0 : BitVec 2).toNat = 0 := rfl
      simp only [pushIndex, hsucc, hBy3, hBy0]
      omega
    | fin hph => exact ⟨p, r, h.advance_of_same rfl rfl rfl rfl fun hbusy => absurd rfl hbusy⟩
  | lnk =>
    cases hmove with
    | load hthr htsr =>
      exact ⟨p, r, h.advance_of_same rfl rfl (by simp [inFlight, hthr, htsr]) rfl fun hbusy => ⟨hbusy, rfl⟩⟩
    | xfer htsr =>
      exact ⟨p, r, h.advance_of_same rfl rfl (by simp [inFlight, htsr]) rfl fun hbusy => ⟨hbusy, rfl⟩⟩
    | lose => simp at hovr
  | snk =>
    cases hmove with
    | rd0 hph hq =>
      exact ⟨p, r + 1, h.advance_of_take hok.memories (hok.receiver.at_rrd0 hph) hq rfl rfl rfl rfl ⟨rfl, rfl⟩⟩
    | rdn hph hq | rdnLast hph hq =>
      exact ⟨p, r + 1, h.advance_of_take hok.memories (hok.receiver.at_rrdn hph).1 hq rfl rfl rfl rfl ⟨rfl, rfl⟩⟩
    | syncon | count | syncoff | emit | emitLast | accept | decline | rdyoff =>
      exact ⟨p, r, h.advance_of_same rfl rfl rfl rfl fun hbusy => ⟨hbusy, rfl⟩⟩

/-- The same over any number of moves: `OVR` is sticky, so no move before has lost a byte. -/
theorem Streamed.moves {f : Nat → Byte} {p r : Nat} {s t : State} (hok : MachineOk s) (h : Streamed f p r s)
    (hmoves : Moves s t) (hovr : t.ovr = false) : ∃ p' r', Advance f p r s p' r' t :=
  hmoves.keeps_of_ok (P := fun u => u.ovr = false → ∃ p' r', Advance f p r s p' r' u)
    (fun _ u v hu hP hmove hv => by
      have huovr : u.ovr = false := Bool.eq_false_iff.2 fun htrue => by simp [hmove.kept.ovr htrue] at hv
      obtain ⟨p', r', hadv⟩ := hP huovr
      obtain ⟨p'', r'', hadv'⟩ := hadv.streamed.move hu hmove hv
      exact ⟨p'', r'', hadv.trans hadv'⟩)
    hok (fun _ => ⟨p, r, h, rfl, rfl, Nat.le_refl _, Nat.le_refl _⟩) hovr

/-- A command other than STR.SEND and SNK.RSTCNT leaves the link alone. -/
theorem Streamed.effect {f : Nat → Byte} {p r : Nat} {i : Instr} {s t : State} (h : Streamed f p r s)
    (heffect : Effect i s t) (hsend : i ≠ .strSend) (hrearm : i ≠ .snkRstcnt) : Advance f p r s p r t := by
  cases heffect with
  | strSend => exact absurd rfl hsend
  | snkRstcnt => exact absurd rfl hrearm
  | strWrb hidle => exact h.advance_of_same rfl rfl rfl rfl fun hbusy => absurd hidle hbusy
  | fftLds | fftStart | strSetfr | snkWrfb | evtLine =>
    exact h.advance_of_same rfl rfl rfl rfl fun hbusy => ⟨hbusy, rfl⟩

theorem Effect.idle_of_send {s t : State} (h : Effect .strSend s t) : s.strPh = .idle := by
  cases h with
  | strSend hidle => exact hidle

theorem Effect.full_of_rearm {s t : State} (h : Effect .snkRstcnt s t) : s.snkPh = .idle ∧ s.rxcnt = 32 := by
  cases h with
  | snkRstcnt hidle hfull => exact ⟨hidle, hfull⟩

/-- Where no send and no re-arm is counted, none has its effect. -/
theorem Effect.ne_of_not_moves {i : Instr} {s t : State} (h : Effect i s.bare t) (hpres : Presents i s)
    (hsend : sendMoves s = false) (hrearm : rearmMoves s = false) : i ≠ .strSend ∧ i ≠ .snkRstcnt := by
  refine ⟨?_, ?_⟩ <;> rintro rfl
  · exact Bool.eq_false_iff.1 hsend (sendMoves_iff.2 ⟨hpres, h.idle_of_send⟩)
  · exact Bool.eq_false_iff.1 hrearm (rearmMoves_iff.2 ⟨hpres, h.full_of_rearm⟩)

/-- A re-arm begins a new frame of the Receiver where the last one ended (rule R197). -/
theorem Streamed.rearm {f : Nat → Byte} {p r : Nat} {s : State} (h : Streamed f p r s) (hfull : s.rxcnt = 32) :
    Streamed f p r { s with rxcnt := 0 } := by
  obtain ⟨hle, hcntle, hidxle, hr, hp, hflight, -, hframe⟩ := h
  rw [hfull] at hcntle hr
  have hcntle' : 32 ≤ r := hcntle
  have hr' : (r - 32) % 32 = 0 := hr
  refine ⟨hle, Nat.zero_le _, hidxle, ?_, hp, hflight, rfl, hframe⟩
  change (r - 0) % 32 = 0
  omega

/-- The stream once the frame in `TXBINS` is sent after `p` bytes. -/
def withFrame (f : Nat → Byte) (p : Nat) (s : State) : Nat → Byte := fun k =>
  if k < p then f k else s.txbins.read (k - p)

/-- A send begins a frame at a frame boundary (rules R143, R152). -/
theorem Streamed.send {f : Nat → Byte} {p r : Nat} {s : State} (hok : MachineOk s) (h : Streamed f p r s)
    (hidle : s.strPh = .idle) : p % 32 = 0 ∧
      Streamed (withFrame f p s) p r { s with dr := true, regCh := 0, regBy := 0, strPh := .waitrr } := by
  obtain ⟨hle, hcntle, hidxle, hr, hp, hflight, hrec, -⟩ := h
  obtain ⟨hthr, htsr, hBy, hCh⟩ := hok.streamer.at_idle hidle
  have hp' : p % 32 = 0 := by
    rcases hCh with hCh | hCh <;>
      simp only [pushIndex, hBy, hCh, BitVec.ofNat_eq_ofNat, BitVec.toNat_ofNat] at hp hidxle <;> omega
  refine ⟨hp', hle, hcntle, Nat.zero_le _, hr, hp', hflight.trans ?_, ?_, fun _ k hk => ?_⟩
  · refine List.map_congr_left fun k hk => ?_
    rw [List.mem_range] at hk
    exact (if_pos (by omega)).symm
  · rw [received_eq_iff] at hrec ⊢
    intro k hk
    have hk' : k < s.rxcnt.toNat := hk
    exact (hrec k hk).trans (if_pos (by change r - s.rxcnt.toNat + k < p; omega)).symm
  · refine Eq.symm ((if_neg (by change ¬p - 0 + k < p; omega)).trans ?_)
    congr 1
    change p - 0 + k - p = k
    omega

/-- Settles O50: by what each move and effect does to the counters and to the bytes on the way. -/
theorem framesArriveWholeAndInOrder : Obligations.FramesArriveWholeAndInOrder := by
  refine ⟨fun c => ?_, fun f p r s t hok h hstep hovr hsend => ?_, fun f p r s t hok h hstep hsend => ?_,
    fun f p r s t hok h hidle hexec => ?_, fun f p r s h hfull => ?_⟩
  · exact ⟨Nat.le_refl _, Nat.le_refl _, Nat.le_refl _, rfl, rfl, rfl, rfl, fun hbusy => absurd rfl hbusy⟩
  · by_cases hrearm : rearmMoves s = true
    · have hbare := step_of_rearmMoves hrearm hstep
      have ht : Streamed f p r t.bare := hbare ▸ Streamed.rearm h (rearmMoves_iff.1 hrearm).2.2
      have hidx : pushIndex t.bare = pushIndex s.bare := by rw [hbare]; rfl
      refine ⟨p, r, ht, ?_, Nat.le_refl _, Nat.le_refl _, by simp [hrearm], fun _ => rfl⟩
      have hidx' : pushIndex t = pushIndex s := hidx
      rw [hidx']
    · have hadv : ∃ p' r', Advance f p r s.bare p' r' t.bare := by
        rcases step_moves_or_effect hstep with hmoves | ⟨i, hpres, heffect⟩
        · exact Streamed.moves hok.bare h hmoves hovr
        · obtain ⟨hnoSend, hnoRearm⟩ := heffect.ne_of_not_moves hpres hsend (by simpa using hrearm)
          exact ⟨p, r, Streamed.effect h heffect hnoSend hnoRearm⟩
      obtain ⟨p', r', hst, hp, hr, hple, hrle⟩ := hadv
      exact ⟨p', r', hst, hp, hple, hrle, fun _ => hr, fun htrue => absurd htrue hrearm⟩
  · obtain ⟨hp, hst⟩ := Streamed.send hok.bare h (sendMoves_iff.1 hsend).2
    rw [← step_of_sendMoves hsend hstep] at hst
    exact ⟨hp, hst⟩
  · rw [exec_strSend_of_idle hidle] at hexec
    injection hexec with hexec
    exact hexec ▸ Streamed.send hok h hidle
  · obtain ⟨-, -, -, hr, -, -, hrec, -⟩ := h
    rw [received_eq_iff] at hrec
    have hcnt : s.rxcnt.toNat = 32 := by rw [hfull]; rfl
    rw [hcnt] at hr hrec
    exact ⟨hr, hrec⟩

end Sys2Proof.Machine
end

section
/-! PROOFS. Framing over a run from reset (statement FullBinsAreTheFrameSent): the stream of all frames, with the sends
and re-arms counted, and the waits that are left when neither node nor the link is enabled. -/

namespace Sys2Proof.Machine

/-! ## Before the first send -/

/-- No STR.SEND has been accepted since reset. -/
def Unsent (s : State) : Prop := s.strPh = .idle ∧ s.regCh = 0

theorem Move.unsent_iff {a : Agent} {s t : State} (hok : MachineOk s) (h : Move a s t) : Unsent t ↔ Unsent s := by
  cases a with
  | fft => rw [h.fft_frame]; rfl
  | lnk | snk => cases h <;> rfl
  | str =>
    cases h with
    | waitrr hph | push hph | pushChunk hph | pushFrame hph => simp [Unsent, hph]
    | fin hph => simp [Unsent, hph, (hok.streamer.at_waittxc hph).2]

theorem Effect.unsent_iff {i : Instr} {s t : State} (h : Effect i s t) (hsend : i ≠ .strSend) :
    Unsent t ↔ Unsent s := by
  cases h with
  | strSend => exact absurd rfl hsend
  | fftLds | fftStart | strWrb | strSetfr | snkRstcnt | snkWrfb | evtLine => rfl

theorem step_unsent_iff {s t : State} (hok : MachineOk s) (hstep : step s = .next t) (hsend : sendMoves s = false) :
    Unsent t ↔ Unsent s := by
  rcases step_moves_or_effect hstep with hmoves | ⟨i, hpres, heffect⟩
  · exact hmoves.keeps_of_ok (P := fun u => Unsent u ↔ Unsent s)
      (fun _ _ _ hu hiff hmove => (hmove.unsent_iff hu).trans hiff) hok.bare Iff.rfl
  · refine heffect.unsent_iff ?_
    rintro rfl
    exact Bool.eq_false_iff.1 hsend (sendMoves_iff.2 ⟨hpres, heffect.idle_of_send⟩)

/-- Where the Streamer is in a frame: at its beginning or its end when idle. -/
theorem pushIndex_le {s : State} (hok : MachineOk s) : pushIndex s ≤ 32 := by
  cases hph : s.strPh with
  | idle =>
    obtain ⟨-, -, hBy, hCh | hCh⟩ := hok.streamer.at_idle hph <;> simp [pushIndex, hBy, hCh]
  | waitrr =>
    obtain ⟨hBy, hCh⟩ := hok.streamer.at_waitrr hph
    simp only [pushIndex, hBy, BitVec.ofNat_eq_ofNat, BitVec.toNat_ofNat]
    omega
  | push => exact (pushIndex_lt hok hph).le
  | waittxc =>
    obtain ⟨hBy, hCh⟩ := hok.streamer.at_waittxc hph
    simp [pushIndex, hBy, hCh]

theorem pushIndex_of_unsent {s : State} (hok : MachineOk s) (h : Unsent s) : pushIndex s = 0 := by
  obtain ⟨-, -, hBy, -⟩ := hok.streamer.at_idle h.1
  simp [pushIndex, hBy, h.2]

theorem pushIndex_of_idle {s : State} (hok : MachineOk s) (hidle : s.strPh = .idle) (h : ¬Unsent s) :
    pushIndex s = 32 := by
  obtain ⟨-, -, hBy, hCh | hCh⟩ := hok.streamer.at_idle hidle
  · exact absurd ⟨hidle, hCh⟩ h
  · simp [pushIndex, hBy, hCh]

/-! ## The stream of a run -/

/-- The stream after `n` steps from `s`, by the sends and re-arms counted: frame `j` is the `TXBINS` that the send with
`j` sends before it found. -/
structure RunStream (s : State) (n : Nat) (f : Nat → Byte) (p r : Nat) : Prop where
  streamed : Streamed f p r (stateAt s n)
  received : r = 32 * stepsWith rearmMoves s n + (stateAt s n).rxcnt.toNat
  pushed : p = 32 * (stepsWith sendMoves s n - 1) + pushIndex (stateAt s n)
  unsent : Unsent (stateAt s n) ↔ stepsWith sendMoves s n = 0
  frames : ∀ j < stepsWith sendMoves s n, ∃ i < n, sendMoves (stateAt s i) = true ∧ stepsWith sendMoves s i = j ∧
    ∀ k < 32, f (32 * j + k) = (stateAt s i).txbins.read k

theorem stepsWith_succ_of {p : State → Bool} {s : State} {n : Nat} (h : p (stateAt s n) = true) :
    stepsWith p s (n + 1) = stepsWith p s n + 1 := by
  rw [stepsWith_succ, if_pos h]

theorem stepsWith_succ_of_not {p : State → Bool} {s : State} {n : Nat} (h : p (stateAt s n) = false) :
    stepsWith p s (n + 1) = stepsWith p s n := by
  rw [stepsWith_succ, h]
  rfl

/-- What an accepted send does to the counters and phases that the stream is read off. -/
theorem sent_of_sendMoves {s t : State} (hsend : sendMoves s = true) (hstep : step s = .next t) :
    rearmMoves s = false ∧ t.rxcnt = s.rxcnt ∧ pushIndex t = 0 ∧ t.strPh = .waitrr := by
  have hbare := step_of_sendMoves hsend hstep
  have hfields : t.bare.rxcnt = s.rxcnt ∧ pushIndex t.bare = 0 ∧ t.bare.strPh = .waitrr := by
    rw [hbare]
    exact ⟨rfl, rfl, rfl⟩
  refine ⟨Bool.eq_false_iff.2 fun hrearm => ?_, hfields⟩
  cases presents_unique (sendMoves_iff.1 hsend).1 (rearmMoves_iff.1 hrearm).1

/-- A send appends its frame to the stream. -/
theorem RunStream.step_of_send {s : State} {n : Nat} {f : Nat → Byte} {p r : Nat} (hok : MachineOk s)
    (h : RunStream s n f p r) (hsend : sendMoves (stateAt s n) = true) :
    RunStream s (n + 1) (withFrame f p (stateAt s n)) p r := by
  obtain ⟨-, -, hsent, -⟩ := framesArriveWholeAndInOrder
  obtain ⟨hst, hr, hp, hunsent, hframes⟩ := h
  have hokn := hok.after n
  obtain ⟨-, hst'⟩ := hsent f p r _ _ hokn hst (hok.step_after n) hsend
  obtain ⟨hrearm, hcnt, hidx, hph⟩ := sent_of_sendMoves hsend (hok.step_after n)
  have hp' : p = 32 * stepsWith sendMoves s n := by
    by_cases hnone : Unsent (stateAt s n)
    · rw [hp, hunsent.1 hnone, pushIndex_of_unsent hokn hnone]
    · have hpos := mt hunsent.2 hnone
      rw [hp, pushIndex_of_idle hokn (sendMoves_iff.1 hsend).2 hnone]
      omega
  have hcount := stepsWith_succ_of hsend
  refine ⟨hst', ?_, ?_, ?_, fun j hj => ?_⟩
  · rw [stepsWith_succ_of_not hrearm, hcnt, hr]
  · rw [hcount, hidx, hp', Nat.add_sub_cancel, Nat.add_zero]
  · rw [hcount, Unsent, hph]
    simp
  · rcases Nat.lt_succ_iff_lt_or_eq.1 (hcount ▸ hj) with hlt | rfl
    · obtain ⟨i, hi, hmoves, hcounti, hbytes⟩ := hframes j hlt
      exact ⟨i, by omega, hmoves, hcounti, fun k hk => (if_pos (by omega)).trans (hbytes k hk)⟩
    · refine ⟨n, Nat.lt_succ_self n, hsend, rfl, fun k hk => (if_neg (by omega)).trans ?_⟩
      rw [hp', Nat.add_sub_cancel_left]

/-- Any other step that loses no byte keeps it. -/
theorem RunStream.step_of_not_send {s : State} {n : Nat} {f : Nat → Byte} {p r : Nat} (hok : MachineOk s)
    (h : RunStream s n f p r) (hovr : (stateAt s (n + 1)).ovr = false) (hsend : sendMoves (stateAt s n) = false) :
    ∃ p' r', RunStream s (n + 1) f p' r' := by
  obtain ⟨-, hkeep, -⟩ := framesArriveWholeAndInOrder
  obtain ⟨hst, hr, hp, hunsent, hframes⟩ := h
  have hstep := hok.step_after n
  obtain ⟨p', r', hst', hpush, -, -, hrecv, hrearmed⟩ := hkeep f p r _ _ (hok.after n) hst hstep hovr hsend
  have hcount := stepsWith_succ_of_not hsend
  refine ⟨p', r', hst', ?_, by rw [hcount]; omega, ?_, fun j hj => ?_⟩
  · by_cases hrearm : rearmMoves (stateAt s n) = true
    · have hcnt : (stateAt s (n + 1)).rxcnt = 0 := by
        have heq := congrArg State.rxcnt (step_of_rearmMoves hrearm hstep)
        exact heq
      rw [(rearmMoves_iff.1 hrearm).2.2] at hr
      rw [hrearmed hrearm, hr, stepsWith_succ_of hrearm, hcnt]
      rfl
    · have hrearm' : rearmMoves (stateAt s n) = false := by simpa using hrearm
      have hr' := hrecv hrearm'
      rw [stepsWith_succ_of_not hrearm']
      omega
  · rw [hcount, ← hunsent]
    exact step_unsent_iff (hok.after n) hstep hsend
  · obtain ⟨i, hi, hrest⟩ := hframes j (hcount ▸ hj)
    exact ⟨i, by omega, hrest⟩

theorem ovr_of_succ {s : State} (hok : MachineOk s) {n : Nat} (hovr : (stateAt s (n + 1)).ovr = false) :
    (stateAt s n).ovr = false := by
  have hkept := (step_kept (hok.step_after n)).ovr
  refine Bool.eq_false_iff.2 fun htrue => ?_
  have hlater : (stateAt s (n + 1)).ovr = true := hkept htrue
  exact Bool.false_ne_true (hovr.symm.trans hlater)

/-- While `OVR` is 0 a run from reset has its stream. -/
theorem exists_runStream {c : Config} (hc : c.valid = true) (ts : List Turn) (n : Nat)
    (hovr : (stateAt (State.resetRun c ts) n).ovr = false) : ∃ f p r, RunStream (State.resetRun c ts) n f p r := by
  have hok := machineOk_resetRun hc ts
  induction n with
  | zero =>
    obtain ⟨hreset, -⟩ := framesArriveWholeAndInOrder
    have hst := hreset c
    exact ⟨fun _ => 0, 0, 0, hst, rfl, rfl, by simp [Unsent, State.resetRun, State.resetWith], nofun⟩
  | succ n ih =>
    obtain ⟨f, p, r, h⟩ := ih (ovr_of_succ hok hovr)
    by_cases hsend : sendMoves (stateAt (State.resetRun c ts) n) = true
    · exact ⟨_, p, r, h.step_of_send hok hsend⟩
    · exact ⟨f, h.step_of_not_send hok hovr (by simpa using hsend)⟩

/-- The bytes received of a frame are those of the send with as many sends before it as frames released. -/
theorem RunStream.receivedIsSent {s : State} {n : Nat} {f : Nat → Byte} {p r : Nat} (hok : MachineOk s)
    (h : RunStream s n f p r) : ReceivedIsSent s n := by
  intro hne
  obtain ⟨hst, hr, hp, hunsent, hframes⟩ := h
  obtain ⟨hle, -, -, -, -, -, hrec, -⟩ := hst
  have hcnt0 : (stateAt s n).rxcnt.toNat ≠ 0 := fun h0 => hne (BitVec.eq_of_toNat_eq h0)
  have hcnt32 := (hok.after n).receiver.count_le
  have hidx := pushIndex_le (hok.after n)
  have hsome : stepsWith sendMoves s n ≠ 0 := fun h0 => by
    have hidx0 := pushIndex_of_unsent (hok.after n) (hunsent.2 h0)
    omega
  obtain ⟨i, hi, hmoves, hcount, hbytes⟩ := hframes (stepsWith rearmMoves s n) (by omega)
  refine ⟨i, hi, hmoves, hcount, fun k hk => ?_⟩
  rw [← hbytes k (by omega), received_eq_iff.1 hrec k hk]
  congr 1
  omega

/-- The waits that are left while no byte is lost: a reader inside a chunk would need bytes that are not on the way. -/
theorem Streamed.onlyIdleWaits {f : Nat → Byte} {p r : Nat} {s : State} (hok : MachineOk s) (h : Streamed f p r s) :
    OnlyIdleWaits s := by
  intro hstr hlnk hsnk
  have hstr' := mt (agentEnabled_str s).2 (Bool.eq_false_iff.1 hstr)
  have hlnk' := mt (agentEnabled_lnk s).2 (Bool.eq_false_iff.1 hlnk)
  have htsr : s.tsr = none := by
    cases htsr : s.tsr with
    | none => rfl
    | some b => exact absurd (.inl (by simp [htsr])) hlnk'
  have hthr : s.thr = none := by
    cases hthr : s.thr with
    | none => rfl
    | some b => exact absurd (.inr ⟨htsr, by simp [hthr]⟩) hlnk'
  have hphase : (s.strPh = .idle ∨ (s.strPh = .waitrr ∧ s.rr = false)) ∧ s.regBy = 0 := by
    cases hph : s.strPh with
    | idle => exact ⟨.inl rfl, (hok.streamer.at_idle hph).2.2.1⟩
    | waitrr =>
      refine ⟨.inr ⟨rfl, Bool.eq_false_iff.2 fun hrr => hstr' (.inl ⟨hph, hrr⟩)⟩, (hok.streamer.at_waitrr hph).1⟩
    | push => exact absurd (.inr (.inl ⟨hph, hthr⟩)) hstr'
    | waittxc => exact absurd (.inr (.inr ⟨hph, hthr, htsr⟩)) hstr'
  obtain ⟨hphase, hBy⟩ := hphase
  rw [agentEnabled_snk] at hsnk
  cases hph : s.snkPh <;> simp only [hph] at hsnk
  case idle => exact .inl ⟨rfl, hsnk, hphase.imp_right And.left⟩
  case rrd0 =>
    have hrr : s.rr = true := hok.receiver.rr_iff.2 (.inl hph)
    exact .inr ⟨rfl, hphase.resolve_right fun ⟨_, hno⟩ => by simp [hrr] at hno⟩
  case rrdn =>
    exfalso
    obtain ⟨hle, hcntle, hidxle, hr, hp, hflight, -⟩ := h
    have hq : s.rxq = [] := by simpa [rxc] using hsnk
    have hlen := congrArg List.length hflight
    simp only [inFlight, hq, htsr, hthr, Option.toList_none, List.append_nil, List.length_nil, List.length_map,
      List.length_range] at hlen
    obtain ⟨-, hrb0, hrb4⟩ := hok.receiver.at_rrdn hph
    have hmod := hok.receiver.count_mod
    simp only [pushIndex, hBy, BitVec.ofNat_eq_ofNat, BitVec.toNat_ofNat] at hp hidxle
    omega
  all_goals simp at hsnk

/-- Settles O51: the stream of the run, by induction over its steps. -/
theorem fullBinsAreTheFrameSent : Obligations.FullBinsAreTheFrameSent := by
  intro c ts n s hc hs hovr
  subst hs
  have hok := machineOk_resetRun hc ts
  obtain ⟨f, p, r, h⟩ := exists_runStream hc ts n hovr
  refine ⟨h.receivedIsSent hok, h.streamed.onlyIdleWaits (hok.after n), fun hfull => ?_⟩
  obtain ⟨i, hi, hmoves, hcount, hbytes⟩ := h.receivedIsSent hok (by rw [hfull]; decide)
  refine ⟨i, hi, hmoves, hcount, fun k hk => hbytes k ?_⟩
  rw [hfull]
  exact hk

end Sys2Proof.Machine
end

section
/-! PROOFS. Premise P2 with a queue of four bytes (statement PacedLinkNeverOverruns): a ready that is not stale finds
nothing on the way, so at most one chunk is between the nodes. -/

namespace Sys2Proof.Machine

theorem Streamed.inFlight_length {f : Nat → Byte} {p r : Nat} {s : State} (h : Streamed f p r s) :
    (inFlight s).length = p - r := by
  obtain ⟨-, -, -, -, -, hflight, -⟩ := h
  rw [hflight, List.length_map, List.length_range]

/-- A ready of this chunk, with at most a chunk on the way, finds nothing of it sent or received: the counts of bytes
pushed and received agree modulo a frame. -/
theorem Streamed.none_of_notStale {f : Nat → Byte} {p r : Nat} {s : State} (hok : MachineOk s)
    (h : Streamed f p r s) (hlen : (inFlight s).length ≤ 4) (hph : s.strPh = .waitrr) (hrr : s.rr = true)
    (hstale : ReadyNotStale s) : (inFlight s).length = 0 ∧ s.rb.toNat = 0 := by
  have hlength := h.inFlight_length
  obtain ⟨hle, hcntle, hidxle, hr, hp, -⟩ := h
  obtain ⟨hBy, -⟩ := hok.streamer.at_waitrr hph
  have hCh : s.regCh.toNat = (s.rxcnt.toNat - s.rb.toNat) / 4 := by
    by_contra hne
    exact hstale ⟨hrr, hne⟩
  have hmod := hok.receiver.count_mod
  have hrb : s.rb.toNat ≤ 1 := by
    rcases hok.receiver.rr_iff.1 hrr with hph' | hph'
    · rw [hok.receiver.rb_eq_zero (by simp [hph']) (by simp [hph'])]; decide
    · rw [hok.receiver.rb_at_rrdyoff hph']; decide
  have hidx : pushIndex s = 4 * s.regCh.toNat := by rw [pushIndex, hBy]; rfl
  omega

theorem inFlight_length_eq (s : State) :
    (inFlight s).length = s.rxq.length + s.tsr.toList.length + s.thr.toList.length := by
  rw [inFlight, List.length_append, List.length_append]

/-- With at most a chunk on the way a queue of four bytes has room for the byte in `TSR`. -/
theorem Paced.room {s : State} (h : Paced s) (hdepth : 4 ≤ s.cfg.rxDepth) (b : Byte) (htsr : s.tsr = some b) :
    s.rxq.length < s.cfg.rxDepth := by
  have hlen := h.1
  rw [inFlight_length_eq, htsr, Option.toList_some, List.length_singleton] at hlen
  omega

/-- A move with room for its byte, and no stale ready, keeps at most one chunk on the way. -/
theorem Paced.move {f : Nat → Byte} {p r : Nat} {a : Agent} {s t : State} (hok : MachineOk s) (hst : Streamed f p r s)
    (hroom : ∀ b, s.tsr = some b → s.rxq.length < s.cfg.rxDepth) (hpaced : Paced s) (hmove : Move a s t)
    (hstale : a = .str → s.strPh = .waitrr → ReadyNotStale s) : t.ovr = s.ovr ∧ Paced t := by
  obtain ⟨hlen, hpush⟩ := hpaced
  have pushed {u : State} (hph : s.strPh = .push) (hu : (inFlight u).length = (inFlight s).length + 1)
      (hBy : u.strPh = .push → u.regBy.toNat = s.regBy.toNat + 1) : Paced u := by
    have hlt := s.regBy.isLt
    have hle := hpush hph
    exact ⟨by omega, fun hph' => by rw [hu, hBy hph']; omega⟩
  have taken {u : State} {b : Byte} {rest : List Byte} (hq : s.rxq = b :: rest)
      (hu : inFlight u = rest ++ s.tsr.toList ++ s.thr.toList) (hph : u.strPh = s.strPh) (hBy : u.regBy = s.regBy) :
      Paced u := by
    have hle : (inFlight u).length ≤ (inFlight s).length := by
      rw [hu, inFlight, hq]
      simp
    exact ⟨by omega, fun hph' => by rw [hBy]; exact hle.trans (hpush (hph ▸ hph'))⟩
  cases a with
  | fft => rw [hmove.fft_frame]; exact ⟨rfl, hlen, hpush⟩
  | str =>
    cases hmove with
    | waitrr hph hrr =>
      have hnone : (inFlight s).length = 0 := (hst.none_of_notStale hok hlen hph hrr (hstale rfl hph)).1
      exact ⟨rfl, hlen, fun _ => (Nat.le_of_eq hnone).trans (Nat.zero_le _)⟩
    | push hph hthr hBy =>
      have hsucc : (s.regBy + 1).toNat = s.regBy.toNat + 1 := by bv_omega
      exact ⟨rfl, pushed hph (by simp [inFlight_length_eq, hthr]) fun _ => hsucc⟩
    | pushChunk hph hthr hBy | pushFrame hph hthr hBy =>
      exact ⟨rfl, pushed hph (by simp [inFlight_length_eq, hthr]) nofun⟩
    | fin => exact ⟨rfl, hlen, nofun⟩
  | lnk =>
    cases hmove with
    | @load _ b hthr htsr =>
      have heq : inFlight { s with tsr := some b, thr := none } = inFlight s := by simp [inFlight, hthr, htsr]
      rw [Paced, heq]
      exact ⟨rfl, hlen, hpush⟩
    | @xfer _ b htsr =>
      have heq : inFlight { s with rxq := s.rxq ++ [b], tsr := none } = inFlight s := by simp [inFlight, htsr]
      rw [Paced, heq]
      exact ⟨rfl, hlen, hpush⟩
    | lose htsr hfull => exact absurd (hroom _ htsr) (Nat.not_lt.2 hfull)
  | snk =>
    cases hmove with
    | rd0 hph hq | rdn hph hq | rdnLast hph hq => exact ⟨rfl, taken hq rfl rfl rfl⟩
    | syncon | count | syncoff | emit | emitLast | accept | decline | rdyoff => exact ⟨rfl, hlen, hpush⟩

theorem Paced.effect {i : Instr} {s t : State} (hpaced : Paced s) (h : Effect i s t) : t.ovr = s.ovr ∧ Paced t := by
  obtain ⟨hlen, hpush⟩ := hpaced
  cases h with
  | strSend => exact ⟨rfl, hlen, nofun⟩
  | fftLds | fftStart | strWrb | strSetfr | snkRstcnt | snkWrfb | evtLine => exact ⟨rfl, hlen, hpush⟩

/-- The operation that a step of a waiting Streamer is: its EVT.STEP, or STR.WAITRR by its phase. -/
theorem waitrr_of_str {i : Instr} {s : State} (hph : s.strPh = .waitrr)
    (h : i = .evtStep .str ∨ decode (agentCode .str s) = .ok i) : i = .strWaitrr ∨ i = .evtStep .str := by
  rcases h with h | h
  · exact .inr h
  · rw [decode_agentCode_str, hph] at h
    exact .inl (Except.ok.inj h).symm

/-- Settles O55: each operation is one move or one effect, and the only move with a premise is STR.WAITRR. -/
theorem pacedLinkNeverOverruns : Obligations.PacedLinkNeverOverruns := by
  refine ⟨fun c => ⟨by simp [inFlight, State.resetWith], nofun⟩,
    fun i f p r s t hok hdepth hst hpaced hrun hsettle hstale hexec => ?_⟩
  rcases exec_single_cases hrun hsettle hexec with heq | ⟨a, hcode, hmove⟩ | heffect
  · have hboth : t.bare.ovr = s.bare.ovr ∧ Paced t.bare := by rw [heq]; exact ⟨rfl, hpaced⟩
    exact hboth
  · have hboth : t.bare.ovr = s.bare.ovr ∧ Paced t.bare := by
      refine Paced.move hok.bare hst (Paced.room (s := s.bare) hpaced hdepth) hpaced hmove ?_
      rintro rfl hph
      exact hstale hph (waitrr_of_str hph hcode)
    exact hboth
  · have hboth := Paced.effect (s := s.bare) hpaced heffect
    exact hboth

end Sys2Proof.Machine
end

section
/-! PROOFS. The premises of rule R281 that prevent an overrun (statement LinkPremisesPreventOverrun): P2 alone from
depth 4, no premise for one frame from depth 32, and P1 with P2 from depth 2, where the Receiver's steps in a chunk keep up
with the bytes that arrive. -/

namespace Sys2Proof.Machine

/-! ## One chunk at a time -/

/-- What is on the way is of the chunk being received: nothing outside one, and inside one at most its four bytes, as
many as were pushed of it while it is pushed. -/
structure ChunkOnly (s : State) : Prop where
  outside : ¬readsChunk s.snkPh → (inFlight s).length = 0 ∧ s.strPh ≠ .push
  inside : readsChunk s.snkPh → s.rb.toNat + (inFlight s).length ≤ 4 ∧
    (s.strPh = .push → s.rb.toNat + (inFlight s).length = s.regBy.toNat)

theorem ChunkOnly.inFlight_le {s : State} (h : ChunkOnly s) : (inFlight s).length ≤ 4 := by
  by_cases hchunk : readsChunk s.snkPh
  · have hle := (h.inside hchunk).1
    omega
  · have hnone := (h.outside hchunk).1
    omega

theorem ChunkOnly.chunk_of_push {s : State} (h : ChunkOnly s) (hph : s.strPh = .push) : readsChunk s.snkPh := by
  by_contra hout
  exact (h.outside hout).2 hph

theorem ChunkOnly.congr {s t : State} (h : ChunkOnly s) (hph : t.snkPh = s.snkPh) (hrb : t.rb = s.rb)
    (hlen : (inFlight t).length = (inFlight s).length) (hpush : t.strPh = .push → s.strPh = .push ∧ t.regBy = s.regBy) :
    ChunkOnly t := by
  refine ⟨fun hout => ?_, fun hchunk => ?_⟩
  · rw [hph] at hout
    exact ⟨hlen.trans (h.outside hout).1, fun hp => (h.outside hout).2 (hpush hp).1⟩
  · rw [hph] at hchunk
    obtain ⟨hle, hBy⟩ := h.inside hchunk
    rw [hrb, hlen]
    exact ⟨hle, fun hp => by rw [(hpush hp).2]; exact hBy (hpush hp).1⟩

/-- A byte pushed into the chunk being received. -/
theorem ChunkOnly.pushed {s t : State} (h : ChunkOnly s) (hph : s.strPh = .push) (hsnk : t.snkPh = s.snkPh)
    (hrb : t.rb = s.rb) (hlen : (inFlight t).length = (inFlight s).length + 1)
    (hBy : t.strPh = .push → t.regBy.toNat = s.regBy.toNat + 1) : ChunkOnly t := by
  have hchunk := h.chunk_of_push hph
  obtain ⟨-, heq⟩ := h.inside hchunk
  have hlt := s.regBy.isLt
  have heq' := heq hph
  refine ⟨fun hout => absurd (hsnk ▸ hchunk) hout, fun _ => ?_⟩
  rw [hrb, hlen]
  exact ⟨by omega, fun hp => by rw [hBy hp]; omega⟩

/-- A byte of the chunk taken from the queue, the last one included. -/
theorem ChunkOnly.taken {s t : State} (h : ChunkOnly s) (hchunk : readsChunk s.snkPh)
    (hlen : (inFlight s).length = (inFlight t).length + 1) (hstr : t.strPh = s.strPh) (hBy : t.regBy = s.regBy)
    (hend : (t.snkPh = .idle ∧ s.rb.toNat = 3) ∨ (readsChunk t.snkPh ∧ t.rb.toNat = s.rb.toNat + 1)) : ChunkOnly t := by
  obtain ⟨hle, heq⟩ := h.inside hchunk
  have hlt := s.regBy.isLt
  rcases hend with ⟨hidle, hrb⟩ | ⟨hchunk', hrb⟩
  · refine ⟨fun _ => ⟨by omega, fun hp => ?_⟩, fun hin => absurd hidle (readsChunk_ne_idle hin)⟩
    have hBy' := heq (hstr ▸ hp)
    omega
  · refine ⟨fun hout => absurd hchunk' hout, fun _ => ⟨by omega, fun hp => ?_⟩⟩
    have hBy' := heq (hstr ▸ hp)
    rw [hBy]
    omega

/-- A move that does not lose a byte, nor takes a stale ready, keeps one chunk at a time. -/
theorem ChunkOnly.move {f : Nat → Byte} {p r : Nat} {a : Agent} {s t : State} (hok : MachineOk s)
    (hst : Streamed f p r s) (hroom : a = .lnk → ∀ b, s.tsr = some b → s.rxq.length < s.cfg.rxDepth) (h : ChunkOnly s)
    (hmove : Move a s t)
    (hstale : a = .str → s.strPh = .waitrr → ReadyNotStale s) : t.ovr = s.ovr ∧ ChunkOnly t := by
  cases a with
  | fft =>
    rw [hmove.fft_frame]
    exact ⟨rfl, h.congr rfl rfl rfl fun hp => ⟨hp, rfl⟩⟩
  | str =>
    cases hmove with
    | waitrr hph hrr =>
      obtain ⟨hnone, hrb⟩ := hst.none_of_notStale hok h.inFlight_le hph hrr (hstale rfl hph)
      have hchunk : readsChunk s.snkPh := (hok.receiver.rr_iff.1 hrr).imp_right .inl
      obtain ⟨hBy, -⟩ := hok.streamer.at_waitrr hph
      refine ⟨rfl, fun hout => absurd hchunk hout, fun _ => ⟨(h.inside hchunk).1, fun _ => ?_⟩⟩
      change s.rb.toNat + (inFlight s).length = s.regBy.toNat
      rw [hnone, hrb, hBy]
      rfl
    | push hph hthr hBy =>
      have hsucc : (s.regBy + 1).toNat = s.regBy.toNat + 1 := by bv_omega
      exact ⟨rfl, h.pushed hph rfl rfl (by simp [inFlight_length_eq, hthr]) fun _ => hsucc⟩
    | pushChunk hph hthr | pushFrame hph hthr =>
      exact ⟨rfl, h.pushed hph rfl rfl (by simp [inFlight_length_eq, hthr]) nofun⟩
    | fin => exact ⟨rfl, h.congr rfl rfl rfl nofun⟩
  | lnk =>
    cases hmove with
    | load hthr htsr =>
      exact ⟨rfl, h.congr rfl rfl (by simp [inFlight_length_eq, hthr, htsr]) fun hp => ⟨hp, rfl⟩⟩
    | xfer htsr => exact ⟨rfl, h.congr rfl rfl (by simp [inFlight_length_eq, htsr]) fun hp => ⟨hp, rfl⟩⟩
    | lose htsr hfull => exact absurd (hroom rfl _ htsr) (Nat.not_lt.2 hfull)
  | snk =>
    cases hmove with
    | rd0 hph hq =>
      have hrb : s.rb = 0 := hok.receiver.rb_eq_zero (by simp [hph]) (by simp [hph])
      exact ⟨rfl, h.taken (.inl hph) (by simp [inFlight_length_eq, byteTaken, hq]; omega) rfl rfl
        (.inr ⟨.inr (.inl rfl), by rw [hrb]; rfl⟩)⟩
    | rdyoff hph =>
      refine ⟨rfl, fun hout => absurd (.inr (.inr rfl)) hout, fun _ => ?_⟩
      exact h.inside (.inr (.inl hph))
    | rdn hph hq hrb =>
      have hsucc : (s.rb + 1).toNat = s.rb.toNat + 1 := hok.receiver.rb_add_one_toNat hph
      exact ⟨rfl, h.taken (.inr (.inr hph)) (by simp [inFlight_length_eq, byteTaken, hq]; omega) rfl rfl
        (.inr ⟨.inr (.inr hph), hsucc⟩)⟩
    | rdnLast hph hq hrb =>
      have hrb3 := (rb_add_one_eq_four_iff _).1 hrb
      exact ⟨rfl, h.taken (.inr (.inr hph)) (by simp [inFlight_length_eq, byteTaken, hq]; omega) rfl rfl
        (.inl ⟨rfl, by omega⟩)⟩
    | accept hph =>
      obtain ⟨hnone, hpush⟩ := h.outside (by simp [readsChunk, hph])
      refine ⟨rfl, fun hout => absurd (.inl rfl) hout, fun _ => ⟨?_, fun hp => absurd hp hpush⟩⟩
      change 0 + (inFlight s).length ≤ 4
      omega
    | syncoff hph =>
      have hout := h.outside (by simp [readsChunk, hph])
      exact ⟨rfl, fun _ => hout, fun hin => absurd hin (not_readsChunk_afterSyncoff s)⟩
    | syncon hph | count hph | emit hph | emitLast hph | decline hph =>
      have hout := h.outside (by simp [readsChunk, hph])
      exact ⟨rfl, fun _ => hout, fun hin => absurd hin (by simp [readsChunk, hph])⟩

/-- The commands leave what is on the way and the chunk being received. -/
structure SameChunk (s t : State) : Prop where
  ovr : t.ovr = s.ovr
  snkPh : t.snkPh = s.snkPh
  rb : t.rb = s.rb
  rxq : t.rxq = s.rxq
  inFlight : inFlight t = inFlight s
  push : t.strPh = .push → s.strPh = .push ∧ t.regBy = s.regBy

theorem Effect.sameChunk {i : Instr} {s t : State} (h : Effect i s t) : SameChunk s t := by
  cases h with
  | strSend => exact ⟨rfl, rfl, rfl, rfl, rfl, nofun⟩
  | fftLds | fftStart | strWrb | strSetfr | snkRstcnt | snkWrfb | evtLine =>
    exact ⟨rfl, rfl, rfl, rfl, rfl, fun hp => ⟨hp, rfl⟩⟩

theorem SameChunk.of_bare {s t : State} (h : SameChunk s.bare t.bare) : SameChunk s t := ⟨h.1, h.2, h.3, h.4, h.5, h.6⟩

theorem SameChunk.refl (s : State) : SameChunk s s := ⟨rfl, rfl, rfl, rfl, rfl, fun hp => ⟨hp, rfl⟩⟩

theorem ChunkOnly.of_same {s t : State} (h : ChunkOnly s) (hsame : SameChunk s t) : ChunkOnly t :=
  h.congr hsame.snkPh hsame.rb (congrArg List.length hsame.inFlight) hsame.push

theorem Paced.of_same {s t : State} (h : Paced s) (hsame : SameChunk s t) : Paced t := by
  rw [Paced, hsame.inFlight]
  exact ⟨h.1, fun hp => by rw [(hsame.push hp).2]; exact h.2 (hsame.push hp).1⟩

/-- By a single turn one agent moves, or the chunk stays as it is. -/
theorem step_chunk_cases {s t : State} (hsingle : NextIsSingle s) (hstep : step s = .next t) :
    (∃ a, agentMoves a s = true ∧ Move a s.bare t.bare) ∨ ((∀ a, agentMoves a s = false) ∧ SameChunk s t) := by
  refine (step_single_cases hsingle hstep).imp_right fun ⟨hnone, h⟩ => ⟨hnone, ?_⟩
  rcases h with heq | ⟨i, -, heffect⟩
  · exact SameChunk.of_bare (heq ▸ .refl _)
  · exact heffect.sameChunk.of_bare

/-! ## P2 alone, from depth 4 -/

theorem cfg_stateAt {s : State} (hok : MachineOk s) (n : Nat) : (stateAt s n).cfg = s.cfg := by
  induction n with
  | zero => rfl
  | succ n ih =>
    have hcfg := (step_kept (hok.step_after n)).cfg
    exact Eq.trans hcfg ih

/-- P2 at the step of the agent that moves. -/
theorem notStale_of_agentMoves {s : State} {n k : Nat} (h : ReadySeenInTime s n) (hk : k < n) {a : Agent}
    (ha : agentMoves a (stateAt s k) = true) (hstr : a = .str) (hph : (stateAt s k).strPh = .waitrr) :
    ReadyNotStale (stateAt s k) := by
  refine h k hk ?_
  rw [waitrrMoves, ← hstr, ha, hph]
  rfl

theorem paced_of_notStale {c : Config} (hc : c.valid = true) {ts : List Turn} (hsingle : ∀ t ∈ ts, singleTurn t = true)
    (hdepth : 4 ≤ c.rxDepth) {n : Nat} (hseen : ReadySeenInTime (State.resetRun c ts) n) :
    (stateAt (State.resetRun c ts) n).ovr = false ∧ Paced (stateAt (State.resetRun c ts) n) := by
  have hok := machineOk_resetRun hc ts
  induction n with
  | zero => exact ⟨rfl, by simp [inFlight, State.resetRun, State.resetWith], nofun⟩
  | succ n ih =>
    obtain ⟨hovr, hpaced⟩ := ih fun k hk => hseen k (by omega)
    rcases step_chunk_cases (nextIsSingle_stateAt hsingle n) (hok.step_after n) with ⟨a, ha, hmove⟩ | ⟨-, hsame⟩
    · obtain ⟨f, p, r, hstream⟩ := exists_runStream hc ts n hovr
      have hdepth' : 4 ≤ (stateAt (State.resetRun c ts) n).cfg.rxDepth := by rw [cfg_stateAt hok]; exact hdepth
      have hboth := Paced.move (hok.after n).bare hstream.streamed (hpaced.room hdepth') hpaced hmove
        (notStale_of_agentMoves hseen (Nat.lt_succ_self n) ha)
      exact ⟨hboth.1.trans hovr, hboth.2⟩
    · exact ⟨hsame.ovr.trans hovr, hpaced.of_same hsame⟩

/-! ## No premise, one frame, from depth 32 -/

theorem Move.ovr_of_room {a : Agent} {s t : State} (h : Move a s t)
    (hroom : ∀ b, s.tsr = some b → s.rxq.length < s.cfg.rxDepth) : t.ovr = s.ovr := by
  cases a with
  | fft => rw [h.fft_frame]
  | str | snk => cases h <;> rfl
  | lnk =>
    cases h with
    | load | xfer => rfl
    | lose htsr hfull => exact absurd (hroom _ htsr) (Nat.not_lt.2 hfull)

/-- Within the first frame what is on the way was pushed of it, so a queue of 32 bytes has room. -/
theorem Streamed.room_within_frame {f : Nat → Byte} {r : Nat} {s : State} (hok : MachineOk s)
    (h : Streamed f (pushIndex s) r s) (hdepth : 32 ≤ s.cfg.rxDepth) (b : Byte) (htsr : s.tsr = some b) :
    s.rxq.length < s.cfg.rxDepth := by
  have hlen := h.inFlight_length
  have hidx := pushIndex_le hok
  rw [inFlight_length_eq, htsr, Option.toList_some, List.length_singleton] at hlen
  omega

theorem Moves.ovr_within_frame {f : Nat → Byte} {r : Nat} {s t : State} (hok : MachineOk s)
    (h : Streamed f (pushIndex s) r s) (hdepth : 32 ≤ s.cfg.rxDepth) (hovr : s.ovr = false) (hmoves : Moves s t) :
    t.ovr = false :=
  (hmoves.keeps_of_ok (P := fun u => u.ovr = false ∧ 32 ≤ u.cfg.rxDepth ∧ ∃ r', Streamed f (pushIndex u) r' u)
    (fun _ u v hu ⟨hovr, hdepth, r', hst⟩ hmove => by
      have hovr' := (hmove.ovr_of_room (hst.room_within_frame hu hdepth)).trans hovr
      obtain ⟨p', r'', hadv⟩ := hst.move hu hmove hovr'
      have hp : p' = pushIndex v := by
        have hpushed := hadv.pushed
        omega
      exact ⟨hovr', hmove.kept.cfg ▸ hdepth, r'', hp ▸ hadv.streamed⟩)
    hok ⟨hovr, hdepth, r, h⟩).1

theorem stepsWith_mono (p : State → Bool) (s : State) (n : Nat) : stepsWith p s n ≤ stepsWith p s (n + 1) := by
  rw [stepsWith_succ]
  exact Nat.le_add_right ..

theorem ovr_of_one_frame {c : Config} (hc : c.valid = true) {ts : List Turn} (hdepth : 32 ≤ c.rxDepth) {n : Nat}
    (hone : stepsWith sendMoves (State.resetRun c ts) n ≤ 1) : (stateAt (State.resetRun c ts) n).ovr = false := by
  have hok := machineOk_resetRun hc ts
  induction n with
  | zero => rfl
  | succ n ih =>
    have hone' := (stepsWith_mono sendMoves (State.resetRun c ts) n).trans hone
    have hovr := ih hone'
    obtain ⟨f, p, r, hstream⟩ := exists_runStream hc ts n hovr
    have hp : p = pushIndex (stateAt (State.resetRun c ts) n) := by
      have hpushed := hstream.pushed
      omega
    have hdepth' : 32 ≤ (stateAt (State.resetRun c ts) n).cfg.rxDepth := by rw [cfg_stateAt hok]; exact hdepth
    rcases step_moves_or_effect (hok.step_after n) with hmoves | ⟨i, -, heffect⟩
    · have hlater := hmoves.ovr_within_frame (hok.after n).bare (hp ▸ hstream.streamed) hdepth' hovr
      exact hlater
    · exact heffect.sameChunk.of_bare.ovr.trans hovr

/-! ## P1 and P2, from depth 2 -/

/-- The bytes of the chunk being received that have arrived at the Receiver. -/
def arrived (s : State) : Nat := s.rb.toNat + s.rxq.length

/-- The last LNK.XFER was since the sink's last step. -/
def LastXferAhead (s : State) (n : Nat) : Prop :=
  ∃ i < n, xferMoves (stateAt s i) = true ∧
    ∀ k, i < k → k < n → xferMoves (stateAt s k) = false ∧ agentMoves .snk (stateAt s k) = false

/-- Inside a chunk the sink has taken a step for each byte arrived, but perhaps for the last one since its last step. -/
def Timely (s : State) (n : Nat) : Prop :=
  readsChunk (stateAt s n).snkPh → 1 ≤ arrived (stateAt s n) →
    arrived (stateAt s n) ≤ chunkSteps (stateAt s n) ∨
    (arrived (stateAt s n) ≤ chunkSteps (stateAt s n) + 1 ∧ LastXferAhead s n)

theorem Timely.of_same {s : State} {n : Nat} (h : Timely s n) (hph : (stateAt s (n + 1)).snkPh = (stateAt s n).snkPh)
    (hrb : (stateAt s (n + 1)).rb = (stateAt s n).rb) (hq : (stateAt s (n + 1)).rxq = (stateAt s n).rxq)
    (hxfer : xferMoves (stateAt s n) = false) (hsnk : agentMoves .snk (stateAt s n) = false) : Timely s (n + 1) := by
  intro hchunk hone
  have harr : arrived (stateAt s (n + 1)) = arrived (stateAt s n) := by rw [arrived, arrived, hrb, hq]
  have hsteps : chunkSteps (stateAt s (n + 1)) = chunkSteps (stateAt s n) := by rw [chunkSteps, chunkSteps, hph, hrb]
  rw [hph] at hchunk
  rw [harr] at hone ⊢
  rw [hsteps]
  refine (h hchunk hone).imp_right fun ⟨hle, i, hi, hx, hbetween⟩ => ⟨hle, i, by omega, hx, fun k hik hkn => ?_⟩
  rcases Nat.lt_succ_iff_lt_or_eq.1 hkn with hlt | rfl
  · exact hbetween k hik hlt
  · exact ⟨hxfer, hsnk⟩

/-- A sink step inside a chunk, or the one that begins it. -/
theorem Move.chunk_steps {s t : State} (hok : MachineOk s) (h : Move .snk s t) (hchunk : readsChunk t.snkPh) :
    (readsChunk s.snkPh ∧ chunkSteps t = chunkSteps s + 1 ∧ arrived t = arrived s) ∨
    (¬readsChunk s.snkPh ∧ t.rb = 0 ∧ t.rxq = s.rxq) := by
  cases h with
  | rd0 hph hq =>
    have hrb : s.rb = 0 := hok.receiver.rb_eq_zero (by simp [hph]) (by simp [hph])
    refine .inl ⟨.inl hph, by simp [chunkSteps, hph], ?_⟩
    simp [arrived, byteTaken, hq, hrb, Nat.add_comm]
  | rdyoff hph =>
    have hrb : s.rb = 1 := hok.receiver.rb_at_rrdyoff hph
    exact .inl ⟨.inr (.inl hph), by simp [chunkSteps, hph, hrb], rfl⟩
  | rdn hph hq hrb =>
    have hsucc : (s.rb + 1).toNat = s.rb.toNat + 1 := hok.receiver.rb_add_one_toNat hph
    refine .inl ⟨.inr (.inr hph), ?_, ?_⟩
    · simp only [chunkSteps, byteTaken, hph, hsucc]
    · simp only [arrived, byteTaken, hq, hsucc, List.length_cons]
      omega
  | accept hph => exact .inr ⟨by simp [readsChunk, hph], rfl, rfl⟩
  | syncoff => exact absurd hchunk (not_readsChunk_afterSyncoff s)
  | syncon hph | count hph | emit hph | emitLast hph | decline hph | rdnLast hph => simp [readsChunk, hph] at hchunk

/-- A sink that is a byte behind has one to read. -/
theorem enabled_of_late {s : State} (hok : MachineOk s) (hchunk : readsChunk s.snkPh) (h : chunkSteps s < arrived s) :
    agentEnabled .snk s = true := by
  have hbyte (hlen : 0 < s.rxq.length) : rxc s = true := by
    obtain ⟨b, rest, hq⟩ := List.exists_cons_of_length_pos hlen
    exact rxc_of_cons hq
  rw [agentEnabled_snk]
  rcases hchunk with hph | hph | hph <;> rw [hph] <;> simp only [chunkSteps, arrived, hph] at h
  · have hrb : s.rb = 0 := hok.receiver.rb_eq_zero (by simp [hph]) (by simp [hph])
    rw [hrb] at h
    exact hbyte (by simpa using h)
  · exact hbyte (by omega)

/-- A sink that has kept up has at most one byte queued. -/
theorem queue_le_one_of_kept {s : State} (hchunk : readsChunk s.snkPh)
    (hkept : arrived s = 0 ∨ arrived s ≤ chunkSteps s) : s.rxq.length ≤ 1 := by
  rcases hchunk with hph | hph | hph <;> simp only [arrived, chunkSteps, hph] at hkept <;> omega

/-- At an LNK.XFER under P1 the sink has kept up, so at most one byte is queued. -/
theorem Timely.room {s : State} {n : Nat} (hok : MachineOk (stateAt s n)) (h : Timely s n)
    (honly : ChunkOnly (stateAt s n)) (hkeeps : ReceiverKeepsUp s (n + 1)) (hxfer : xferMoves (stateAt s n) = true) :
    readsChunk (stateAt s n).snkPh ∧ (arrived (stateAt s n) = 0 ∨ arrived (stateAt s n) ≤ chunkSteps (stateAt s n)) ∧
      (stateAt s n).rxq.length ≤ 1 := by
  obtain ⟨hlnk, htsr⟩ : agentMoves .lnk (stateAt s n) = true ∧ (stateAt s n).tsr.isSome = true := by
    simpa [xferMoves] using hxfer
  have hlen := inFlight_length_eq (stateAt s n)
  obtain ⟨b, hb⟩ := Option.isSome_iff_exists.1 htsr
  rw [hb, Option.toList_some, List.length_singleton] at hlen
  have hchunk : readsChunk (stateAt s n).snkPh := by
    by_contra hout
    have hnone := (honly.outside hout).1
    omega
  have hkept : arrived (stateAt s n) = 0 ∨ arrived (stateAt s n) ≤ chunkSteps (stateAt s n) := by
    by_contra hlate
    rw [not_or, not_le] at hlate
    obtain ⟨hne, hlt⟩ := hlate
    obtain ⟨-, i, hi, hx, hbetween⟩ := (h hchunk (by omega)).resolve_left (by omega)
    have henabled := enabled_of_late hok hchunk hlt
    have hmoved := hkeeps n (Nat.lt_succ_self n) i hi
      ⟨hx, hxfer, ?_, someBetween_eq_true.2 ⟨n, hi, Nat.lt_succ_self n, henabled⟩⟩
    · obtain ⟨k, hik, hkn, hk⟩ := someBetween_eq_true.1 hmoved
      simp [(hbetween k hik hkn).2] at hk
    · refine Bool.eq_false_iff.2 fun hsome => ?_
      obtain ⟨k, hik, hkn, hk⟩ := someBetween_eq_true.1 hsome
      simp [(hbetween k hik hkn).1] at hk
  exact ⟨hchunk, hkept, queue_le_one_of_kept hchunk hkept⟩

/-- What a move outside the sink does to the Receiver's queue: only LNK.XFER, losing nothing, adds a byte. -/
theorem Move.arrivals {a : Agent} {s t : State} (h : Move a s t) (ha : a ≠ .snk) (hovr : t.ovr = false) :
    t.snkPh = s.snkPh ∧ t.rb = s.rb ∧
      ((t.rxq = s.rxq ∧ ¬(a = .lnk ∧ s.tsr.isSome = true)) ∨
        (a = .lnk ∧ s.tsr.isSome = true ∧ t.rxq.length = s.rxq.length + 1)) := by
  cases a with
  | snk => exact absurd rfl ha
  | fft => rw [h.fft_frame]; exact ⟨rfl, rfl, .inl ⟨rfl, by simp⟩⟩
  | str => cases h <;> exact ⟨rfl, rfl, .inl ⟨rfl, by simp⟩⟩
  | lnk =>
    cases h with
    | load hthr htsr => exact ⟨rfl, rfl, .inl ⟨rfl, by simp [htsr]⟩⟩
    | xfer htsr => exact ⟨rfl, rfl, .inr ⟨rfl, by simp [htsr], by simp⟩⟩
    | lose => simp at hovr

/-- The byte that arrives is the one by which the sink may be behind. -/
theorem Timely.of_xfer {s : State} {n : Nat} (hxfer : xferMoves (stateAt s n) = true)
    (hph : (stateAt s (n + 1)).snkPh = (stateAt s n).snkPh) (hrb : (stateAt s (n + 1)).rb = (stateAt s n).rb)
    (hq : (stateAt s (n + 1)).rxq.length = (stateAt s n).rxq.length + 1)
    (hkept : arrived (stateAt s n) = 0 ∨ arrived (stateAt s n) ≤ chunkSteps (stateAt s n)) : Timely s (n + 1) := by
  intro _ _
  have harr : arrived (stateAt s (n + 1)) = arrived (stateAt s n) + 1 := by
    rw [arrived, arrived, hrb, hq, Nat.add_assoc]
  have hsteps : chunkSteps (stateAt s (n + 1)) = chunkSteps (stateAt s n) := by rw [chunkSteps, chunkSteps, hph, hrb]
  exact .inr ⟨by omega, n, Nat.lt_succ_self n, hxfer, fun k hk hk' => absurd hk' (by omega)⟩

theorem xferMoves_iff {s : State} : xferMoves s = true ↔ agentMoves .lnk s = true ∧ s.tsr.isSome = true := by
  rw [xferMoves, Bool.and_eq_true]

theorem Timely.step {s : State} {n : Nat} (hok : MachineOk s) (hsingle : ∀ t ∈ s.turns, singleTurn t = true)
    (h : Timely s n) (honly : ChunkOnly (stateAt s n)) (hkeeps : ReceiverKeepsUp s (n + 1))
    (hovr : (stateAt s (n + 1)).ovr = false) : Timely s (n + 1) := by
  rcases step_chunk_cases (nextIsSingle_stateAt hsingle n) (hok.step_after n) with ⟨a, ha, hmove⟩ | ⟨hnone, hsame⟩
  · have other {b : Agent} (hb : b ≠ a) : agentMoves b (stateAt s n) = false :=
      Bool.eq_false_iff.2 fun h => hb (agentMoves_unique h ha)
    by_cases hsnk : a = .snk
    · subst hsnk
      intro hchunk hone
      rcases hmove.chunk_steps (hok.after n).bare hchunk with ⟨hchunk', hsteps, harr⟩ | ⟨hout, hrb, hq⟩
      · have hsteps' : chunkSteps (stateAt s (n + 1)) = chunkSteps (stateAt s n) + 1 := hsteps
        have harr' : arrived (stateAt s (n + 1)) = arrived (stateAt s n) := harr
        rw [harr'] at hone
        rcases h hchunk' hone with hle | ⟨hle, -⟩ <;> exact .inl (by omega)
      · have hnone := (honly.outside hout).1
        have hrb' : (stateAt s (n + 1)).rb = 0 := hrb
        have hq' : (stateAt s (n + 1)).rxq = (stateAt s n).rxq := hq
        rw [inFlight_length_eq] at hnone
        rw [arrived, hrb', hq'] at hone
        simp only [BitVec.ofNat_eq_ofNat, BitVec.toNat_ofNat] at hone
        omega
    · obtain ⟨hph, hrb, ⟨hq, hno⟩ | ⟨rfl, htsr, hq⟩⟩ := hmove.arrivals hsnk hovr
      · refine h.of_same hph hrb hq (Bool.eq_false_iff.2 fun hxfer => ?_) (other fun heq => hsnk heq.symm)
        obtain ⟨hlnk, htsr⟩ := xferMoves_iff.1 hxfer
        exact hno ⟨agentMoves_unique ha hlnk, htsr⟩
      · have hxfer := xferMoves_iff.2 ⟨ha, htsr⟩
        exact .of_xfer hxfer hph hrb hq (h.room (hok.after n) honly hkeeps hxfer).2.1
  · exact h.of_same hsame.snkPh hsame.rb hsame.rxq (by simp [xferMoves, hnone]) (hnone .snk)

theorem chunkOnly_of_premises {c : Config} (hc : c.valid = true) {ts : List Turn}
    (hsingle : ∀ t ∈ ts, singleTurn t = true) (hdepth : 2 ≤ c.rxDepth) {n : Nat}
    (hkeeps : ReceiverKeepsUp (State.resetRun c ts) n) (hseen : ReadySeenInTime (State.resetRun c ts) n) :
    (stateAt (State.resetRun c ts) n).ovr = false ∧ ChunkOnly (stateAt (State.resetRun c ts) n) ∧
      Timely (State.resetRun c ts) n := by
  have hok := machineOk_resetRun hc ts
  induction n with
  | zero => exact ⟨rfl, ⟨fun _ => ⟨rfl, nofun⟩, fun hin => absurd rfl (readsChunk_ne_idle hin)⟩,
      fun hin => absurd rfl (readsChunk_ne_idle hin)⟩
  | succ n ih =>
    obtain ⟨hovr, honly, htimely⟩ := ih (fun j hj => hkeeps j (by omega)) fun k hk => hseen k (by omega)
    have hboth : (stateAt (State.resetRun c ts) (n + 1)).ovr = false ∧
        ChunkOnly (stateAt (State.resetRun c ts) (n + 1)) := by
      rcases step_chunk_cases (nextIsSingle_stateAt hsingle n) (hok.step_after n) with ⟨a, ha, hmove⟩ | ⟨-, hsame⟩
      · obtain ⟨f, p, r, hstream⟩ := exists_runStream hc ts n hovr
        have hcfg := cfg_stateAt hok n
        have hroom : a = .lnk → ∀ b, (stateAt (State.resetRun c ts) n).tsr = some b →
            (stateAt (State.resetRun c ts) n).rxq.length < (stateAt (State.resetRun c ts) n).cfg.rxDepth := by
          rintro rfl b hb
          have hle := (htimely.room (hok.after n) honly hkeeps (xferMoves_iff.2 ⟨ha, by simp [hb]⟩)).2.2
          rw [hcfg]
          exact Nat.lt_of_le_of_lt hle hdepth
        have hbare : ChunkOnly (stateAt (State.resetRun c ts) n).bare := ⟨honly.1, honly.2⟩
        have hmoved := hbare.move (hok.after n).bare hstream.streamed hroom hmove
          (notStale_of_agentMoves hseen (Nat.lt_succ_self n) ha)
        exact ⟨hmoved.1.trans hovr, hmoved.2.1, hmoved.2.2⟩
      · exact ⟨hsame.ovr.trans hovr, honly.of_same hsame⟩
    exact ⟨hboth.1, hboth.2, htimely.step hok hsingle honly hkeeps hboth.1⟩

/-- While `OVR` is 0 what was received is what was sent, and no deadlock is left. -/
theorem sound_of_not_ovr {c : Config} (hc : c.valid = true) {ts : List Turn} {n : Nat}
    (hovr : (stateAt (State.resetRun c ts) n).ovr = false) :
    (stateAt (State.resetRun c ts) n).ovr = false ∧ ReceivedIsSent (State.resetRun c ts) n ∧
      OnlyIdleWaits (stateAt (State.resetRun c ts) n) :=
  have ⟨hreceived, hwaits, _⟩ := fullBinsAreTheFrameSent c ts n _ hc rfl hovr
  ⟨hovr, hreceived, hwaits⟩

/-- Settles O52: each premise keeps `OVR` 0, and the rest is framing over a run. -/
theorem linkPremisesPreventOverrun : Obligations.LinkPremisesPreventOverrun := by
  refine ⟨fun c ts n s hc hdepth hsingle hs hkeeps hseen => ?_, fun c ts n s hc hdepth hsingle hs hseen => ?_,
    fun c ts n s hc hdepth hs hone => ?_⟩ <;> subst hs
  · exact sound_of_not_ovr hc (chunkOnly_of_premises hc hsingle hdepth hkeeps hseen).1
  · exact sound_of_not_ovr hc (paced_of_notStale hc hsingle hdepth hseen).1
  · exact sound_of_not_ovr hc (ovr_of_one_frame hc hdepth hone)

end Sys2Proof.Machine
end

section
/-! PROOFS. The video premises (statement VideoPremises): with P3 a Receiver that waits for a chunk, and a Streamer that
is busy, have a frame sent that is not yet released; ticks to an idle sink are matched by RAS.SYNCON. -/

namespace Sys2Proof.Machine

/-! ## Frames sent and frames released -/

/-- The Streamer is sending a frame, or the Receiver waits for the first byte of a chunk. -/
def AwaitsFrame (s : State) : Prop := s.strPh ≠ .idle ∨ s.snkPh = .rrd0

/-- Moves begin no frame, and a chunk is only accepted from a busy Streamer. -/
theorem Move.awaitsFrame {a : Agent} {s t : State} (hok : MachineOk s) (h : Move a s t) :
    (t.strPh ≠ .idle → s.strPh ≠ .idle) ∧ (AwaitsFrame t → AwaitsFrame s) := by
  cases a with
  | fft => rw [h.fft_frame]; exact ⟨id, id⟩
  | lnk => cases h <;> exact ⟨id, id⟩
  | str =>
    cases h with
    | waitrr hph | push hph | pushChunk hph | pushFrame hph =>
      have hbusy : s.strPh ≠ .idle := by simp [hph]
      exact ⟨fun _ => hbusy, fun _ => .inl hbusy⟩
    | fin => exact ⟨fun hbusy => absurd rfl hbusy, fun h => .inr (h.resolve_left fun hbusy => hbusy rfl)⟩
  | snk =>
    cases h with
    | accept hph hdr => exact ⟨id, fun _ => .inl (hok.streamer.busy_of_dr hdr)⟩
    | rdn hph | emit hph => exact ⟨id, id⟩
    | syncoff hph =>
      refine ⟨id, Or.imp_right fun hrd0 => ?_⟩
      exact absurd (.inl hrd0) (not_readsChunk_afterSyncoff s)
    | syncon | count | emitLast | decline | rd0 | rdyoff | rdnLast => exact ⟨id, fun h => .inl (h.resolve_right nofun)⟩

theorem Effect.awaitsFrame {i : Instr} {s t : State} (h : Effect i s t) (hsend : i ≠ .strSend) :
    (t.strPh ≠ .idle → s.strPh ≠ .idle) ∧ (AwaitsFrame t → AwaitsFrame s) := by
  cases h with
  | strSend => exact absurd rfl hsend
  | fftLds | fftStart | strWrb | strSetfr | snkRstcnt | snkWrfb | evtLine => exact ⟨id, id⟩

/-- The same over a step that sends no frame. -/
theorem step_awaitsFrame {s t : State} (hok : MachineOk s) (hstep : step s = .next t) (hsend : sendMoves s = false) :
    (t.strPh ≠ .idle → s.strPh ≠ .idle) ∧ (AwaitsFrame t → AwaitsFrame s) := by
  rcases step_moves_or_effect hstep with hmoves | ⟨i, hpres, heffect⟩
  · have hboth := hmoves.keeps_of_ok
      (P := fun u => (u.strPh ≠ .idle → s.strPh ≠ .idle) ∧ (AwaitsFrame u → AwaitsFrame s))
      (fun _ u v hu ⟨hbusy, hawaits⟩ hmove =>
        have ⟨hbusy', hawaits'⟩ := hmove.awaitsFrame hu
        ⟨hbusy ∘ hbusy', hawaits ∘ hawaits'⟩) hok.bare ⟨id, id⟩
    exact hboth
  · have hi : i ≠ .strSend := by
      rintro rfl
      exact Bool.eq_false_iff.1 hsend (sendMoves_iff.2 ⟨hpres, heffect.idle_of_send⟩)
    have hboth := heffect.awaitsFrame hi
    exact hboth

/-- The frames released are frames sent, a full one not yet released included. -/
theorem RunStream.rearms_le {s : State} {n : Nat} {f : Nat → Byte} {p r : Nat} (hok : MachineOk s)
    (h : RunStream s n f p r) :
    32 * stepsWith rearmMoves s n + (stateAt s n).rxcnt.toNat ≤ 32 * stepsWith sendMoves s n := by
  obtain ⟨hst, hr, hp, hunsent, -⟩ := h
  have hle : r ≤ p := hst.1
  have hidx := pushIndex_le (hok.after n)
  by_cases hnone : stepsWith sendMoves s n = 0
  · have hidx0 := pushIndex_of_unsent (hok.after n) (hunsent.2 hnone)
    omega
  · omega

theorem stepsWith_le (p : State → Bool) (s : State) {i j : Nat} (hij : i ≤ j) : stepsWith p s i ≤ stepsWith p s j :=
  monotone_nat_of_le_succ (stepsWith_mono p s) hij

theorem ovr_of_le {s : State} (hok : MachineOk s) {i j : Nat} (hij : i ≤ j) (hovr : (stateAt s j).ovr = false) :
    (stateAt s i).ovr = false := by
  induction j, hij using Nat.le_induction with
  | base => exact hovr
  | succ j hij ih => exact ih (ovr_of_succ hok hovr)

/-- An idle Streamer stays idle while no frame is sent. -/
theorem idle_of_no_send {s : State} (hok : MachineOk s) {i j : Nat} (hij : i ≤ j) (hidle : (stateAt s i).strPh = .idle)
    (hcount : stepsWith sendMoves s j ≤ stepsWith sendMoves s i) : (stateAt s j).strPh = .idle := by
  induction j, hij using Nat.le_induction with
  | base => exact hidle
  | succ j hij ih =>
    have hmono := stepsWith_le sendMoves s hij
    have hsend : sendMoves (stateAt s j) = false := by
      by_contra hsent
      rw [stepsWith_succ_of (by simpa using hsent)] at hcount
      omega
    rw [stepsWith_succ_of_not hsend] at hcount
    have hprev := ih hcount
    by_contra hbusy
    exact (step_awaitsFrame (hok.after j) (hok.step_after j) hsend).1 hbusy hprev

/-- A frame stays full until it is released. -/
theorem released_eq_of_full {s : State} (hok : MachineOk s) {i j : Nat} (hij : i ≤ j)
    (hfull : ∀ k < j + 1, i ≤ k → (stateAt s k).rxcnt = 32) :
    stepsWith rearmMoves s j = stepsWith rearmMoves s i := by
  induction j, hij using Nat.le_induction with
  | base => rfl
  | succ j hij ih =>
    have hno : rearmMoves (stateAt s j) = false := by
      refine Bool.eq_false_iff.2 fun hrearm => ?_
      have hcnt := congrArg State.rxcnt (step_of_rearmMoves hrearm (hok.step_after j))
      have hcnt' : (stateAt s (j + 1)).rxcnt = 0 := hcnt
      rw [hfull (j + 1) (by omega) (by omega)] at hcnt'
      exact absurd hcnt' (by decide)
    rw [stepsWith_succ_of_not hno]
    exact ih fun k hk => hfull k (by omega)

/-- P3: a frame is released by a busy Streamer only when a later one has been sent. -/
theorem release_after_later_send {c : Config} (hc : c.valid = true) {ts : List Turn} {j i : Nat} (hij : i < j + 1)
    (hovr : (stateAt (State.resetRun c ts) i).ovr = false) (hdr : (stateAt (State.resetRun c ts) i).dr = false)
    (hfull : ∀ k < j + 1, i ≤ k → (stateAt (State.resetRun c ts) k).rxcnt = 32)
    (hbusy : (stateAt (State.resetRun c ts) j).strPh ≠ .idle) :
    stepsWith rearmMoves (State.resetRun c ts) j + 1 < stepsWith sendMoves (State.resetRun c ts) j := by
  have hok := machineOk_resetRun hc ts
  obtain ⟨f, p, r, h⟩ := exists_runStream hc ts i hovr
  have hle := h.rearms_le hok
  have hcount := released_eq_of_full (i := i) (j := j) hok (by omega) hfull
  have hcnt : (stateAt (State.resetRun c ts) i).rxcnt.toNat = 32 := by rw [hfull i hij (Nat.le_refl _)]; rfl
  have hidle : (stateAt (State.resetRun c ts) i).strPh = .idle := by
    by_contra hne
    simp [(hok.after i).streamer.dr_of_busy hne] at hdr
  have hmore : stepsWith sendMoves (State.resetRun c ts) i < stepsWith sendMoves (State.resetRun c ts) j := by
    by_contra hno
    exact hbusy (idle_of_no_send hok (by omega) hidle (by omega))
  omega

/-- Under P3 whoever awaits a frame has one that is sent and not released. -/
theorem awaits_sent_frame {c : Config} (hc : c.valid = true) {ts : List Turn} {n : Nat}
    (hovr : (stateAt (State.resetRun c ts) n).ovr = false) (hdrain : RearmsAfterDrain (State.resetRun c ts) n)
    (hawaits : AwaitsFrame (stateAt (State.resetRun c ts) n)) :
    stepsWith rearmMoves (State.resetRun c ts) n < stepsWith sendMoves (State.resetRun c ts) n := by
  have hok := machineOk_resetRun hc ts
  induction n with
  | zero => simp [AwaitsFrame, State.resetRun, State.resetWith] at hawaits
  | succ n ih =>
    have hovr' := ovr_of_succ hok hovr
    have hstep := hok.step_after n
    by_cases hsend : sendMoves (stateAt (State.resetRun c ts) n) = true
    · obtain ⟨f, p, r, h⟩ := exists_runStream hc ts n hovr'
      have hle := h.rearms_le hok
      rw [stepsWith_succ_of hsend, stepsWith_succ_of_not (sent_of_sendMoves hsend hstep).1]
      omega
    have hsend' : sendMoves (stateAt (State.resetRun c ts) n) = false := by simpa using hsend
    have hback := step_awaitsFrame (hok.after n) hstep hsend'
    have hlt := ih hovr' (fun j hj => hdrain j (by omega)) (hback.2 hawaits)
    rw [stepsWith_succ_of_not hsend']
    by_cases hrearm : rearmMoves (stateAt (State.resetRun c ts) n) = true
    · obtain ⟨i, hi, hdr, hfull⟩ := hdrain n (Nat.lt_succ_self n) hrearm
      have hidle := (rearmMoves_iff.1 hrearm).2.1
      have hbusy : (stateAt (State.resetRun c ts) n).strPh ≠ .idle :=
        (hback.2 hawaits).resolve_right fun hrd0 => by simp [hidle] at hrd0
      rw [stepsWith_succ_of hrearm]
      exact release_after_later_send hc hi (ovr_of_le hok (by omega) hovr') hdr hfull hbusy
    · rwa [stepsWith_succ_of_not (by simpa using hrearm)]

/-- A Receiver that waits while nothing is on the way has received every frame sent. -/
theorem RunStream.all_received {s : State} {n : Nat} {f : Nat → Byte} {p r : Nat} (hok : MachineOk s)
    (h : RunStream s n f p r) (hwaits : WaitsForNextFrame (stateAt s n)) :
    stepsWith sendMoves s n ≤ stepsWith rearmMoves s n := by
  obtain ⟨hph, -, hq, hidle⟩ := hwaits
  obtain ⟨hst, hr, hp, hunsent, -⟩ := h
  obtain ⟨hthr, htsr, -⟩ := (hok.after n).streamer.at_idle hidle
  have hlen := hst.inFlight_length
  have hle : r ≤ p := hst.1
  have hcnt := (hok.after n).receiver.at_rrd0 hph
  simp only [inFlight_length_eq, hq, htsr, hthr, Option.toList_none, List.length_nil] at hlen
  by_cases hnone : stepsWith sendMoves s n = 0
  · omega
  · have hidx := pushIndex_of_idle (hok.after n) hidle (mt hunsent.1 hnone)
    omega

/-! ## A wait without P3 -/

/-- One chunk by EVT.RUN words, so that no STR.FIN is taken after its last byte. -/
def chunkByRuns : List Turn :=
  [.word 0xE1000000, .word 0xE3030000] ++
    (List.replicate 4 [Turn.word 0xE3020000, .word 0xE3040000, .word 0xE3030000]).flatten

/-- A frame whose SNK.RSTCNT comes before the Streamer's STR.FIN: the next invocation accepts a chunk while `DR` is
still 1, and then the Streamer goes idle. -/
def earlyRearm : List Turn :=
  [.word 0x22000000] ++ (List.replicate 7 [Turn.word 0xE1000000, .word 0xE4000000]).flatten ++ chunkByRuns ++
    [.word 0x32000000, .word 0xE1000000, .word 0xE3030000, .word 0xE3020000]

theorem waits_after_earlyRearm :
    (stateAt (State.resetRun Config.default earlyRearm) 33).ovr = false ∧
      WaitsForNextFrame (stateAt (State.resetRun Config.default earlyRearm) 33) := by decide +kernel

/-! ## Ticks -/

theorem synconMoves_iff {s : State} : synconMoves s = true ↔ agentMoves .snk s = true ∧ s.snkPh = .idle := by
  rw [synconMoves, Bool.and_eq_true, beq_iff_eq]

/-- RAS.SYNCON is never a fault, whatever the parameters. -/
theorem exists_step_of_synconMoves {s : State} (h : synconMoves s = true) : ∃ t, step s = .next t := by
  obtain ⟨hmoves, hph⟩ := synconMoves_iff.1 h
  obtain ⟨hturn, he⟩ := agentMoves_iff.1 hmoves
  have htick : s.tickPend = true := by rwa [agentEnabled_snk, hph] at he
  rcases hturn with ⟨ts, hturns⟩ | hpres
  · have hcode : decode (agentCode .snk s) = .ok .rasSyncon := by rw [decode_agentCode_snk, hph]
    exact ⟨_, (step_of_agent hturns hcode).trans (exec_rasSyncon_of_tick (s := { s with turns := ts }) hph htick)⟩
  · exact ⟨_, (step_of_presents hpres).trans
      (exec_evtStep_of_step (s := s.popTurn) he (stepAgent_snk_of_tick (s := s.popTurn) hph htick))⟩

/-- EVT.LINE is never a fault, whatever the parameters. -/
theorem exists_step_of_lineMoves {s : State} (h : lineMoves s = true) : ∃ t, step s = .next t :=
  ⟨_, step_of_presents (lineMoves_iff.1 h)⟩

/-- Only RAS.SYNCON takes the pending tick. -/
theorem Move.tickPend {a : Agent} {s t : State} (h : Move a s t) :
    (a = .snk ∧ s.snkPh = .idle ∧ s.tickPend = true ∧ t.tickPend = false) ∨
    (¬(a = .snk ∧ s.snkPh = .idle) ∧ t.tickPend = s.tickPend) := by
  cases a with
  | fft => rw [h.fft_frame]; exact .inr ⟨by simp, rfl⟩
  | str | lnk => cases h <;> exact .inr ⟨by simp, rfl⟩
  | snk =>
    cases h with
    | syncon hph htick => exact .inl ⟨rfl, hph, htick, rfl⟩
    | count hph | syncoff hph | emit hph | emitLast hph | accept hph | decline hph | rd0 hph | rdyoff hph | rdn hph
    | rdnLast hph => exact .inr ⟨by simp [hph], rfl⟩

theorem Effect.tickPend {i : Instr} {s t : State} (h : Effect i s t) (hline : i ≠ .evtLine) :
    t.tickPend = s.tickPend := by
  cases h with
  | evtLine => exact absurd rfl hline
  | fftLds | fftStart | strWrb | strSend | strSetfr | snkRstcnt | snkWrfb => rfl

/-- By a single turn that presents no tick to a pending one, a tick comes or goes. -/
theorem nextState_ticks {s : State} (hsingle : NextIsSingle s) (hfree : lineMoves s = true → s.tickPend = false) :
    (lineMoves s).toNat + s.tickPend.toNat = (synconMoves s).toNat + (nextState s).tickPend.toNat := by
  have notSyncon (hno : ∀ a, agentMoves a s = true → ¬(a = .snk ∧ s.snkPh = .idle)) : synconMoves s = false :=
    Bool.eq_false_iff.2 fun h => hno .snk (synconMoves_iff.1 h).1 ⟨rfl, (synconMoves_iff.1 h).2⟩
  by_cases hline : lineMoves s = true
  · obtain ⟨t, hstep⟩ := exists_step_of_lineMoves hline
    have htick : t.tickPend = true := by
      have heq := congrArg State.tickPend (step_of_lineMoves hline hstep)
      exact heq
    have hno : synconMoves s = false := notSyncon fun a ha => by
      simp [(not_command_of_agentMoves ha).2.2] at hline
    rw [nextState_of_step hstep, hline, hfree hline, hno, htick]
    rfl
  have hline' : lineMoves s = false := by simpa using hline
  rw [hline']
  by_cases hnext : ∃ t, step s = .next t
  · obtain ⟨t, hstep⟩ := hnext
    rw [nextState_of_step hstep]
    rcases step_single_cases hsingle hstep with ⟨a, ha, hmove⟩ | ⟨hnone, h⟩
    · rcases hmove.tickPend with ⟨rfl, hph, htick, htick'⟩ | ⟨hother, heq⟩
      · have hs : s.tickPend = true := htick
        have ht : t.tickPend = false := htick'
        rw [synconMoves_iff.2 ⟨ha, hph⟩, hs, ht]
        rfl
      · have hsame : t.tickPend = s.tickPend := heq
        rw [hsame, notSyncon fun b hb => agentMoves_unique ha hb ▸ hother]
    · have hsame : t.bare.tickPend = s.bare.tickPend := by
        rcases h with heq | ⟨i, hpres, heffect⟩
        · rw [heq]
        · exact heffect.tickPend fun hi => hline (lineMoves_iff.2 (hi ▸ hpres))
      have hsame' : t.tickPend = s.tickPend := hsame
      rw [hsame', notSyncon fun a ha => by simp [hnone] at ha]
  · have hstays : nextState s = s := by
      unfold nextState
      split
      · exact absurd ⟨_, by assumption⟩ hnext
      · rfl
      · rfl
    rw [hstays, Bool.eq_false_iff.2 fun h => hnext (exists_step_of_synconMoves h)]

/-- Ticks that find none pending are not missed. -/
theorem nextState_miss {s : State} (hmiss : s.miss = false) (hfree : lineMoves s = true → s.tickPend = false) :
    (nextState s).miss = false := by
  unfold nextState
  split
  · rename_i t hstep
    rcases step_miss hstep with heq | ⟨hpres, heq⟩
    · exact heq.trans hmiss
    · rw [heq, hmiss, hfree (lineMoves_iff.2 hpres)]
      rfl
  · exact hmiss
  · exact hmiss

/-- Settles O54: frames sent and released are counted under P3, an early release shows the wait, ticks are counted. -/
theorem videoPremises : Obligations.VideoPremises := by
  refine ⟨fun c ts n s hc hs hovr hdrain hwaits => ?_, ⟨earlyRearm, 33, waits_after_earlyRearm⟩,
    fun c ts n s hs hidle => ⟨?_, fun hsingle => ?_⟩⟩ <;> subst hs
  · have hok := machineOk_resetRun hc ts
    obtain ⟨f, p, r, h⟩ := exists_runStream hc ts n hovr
    have hlt := awaits_sent_frame hc hovr hdrain (.inr hwaits.1)
    have hle := h.all_received hok hwaits
    omega
  · induction n with
    | zero => rfl
    | succ n ih =>
      exact nextState_miss (ih fun k hk => hidle k (by omega)) fun hline => (hidle n (Nat.lt_succ_self n) hline).2
  · induction n with
    | zero => rfl
    | succ n ih =>
      have hbefore := ih fun k hk => hidle k (by omega)
      have hticks := nextState_ticks (nextIsSingle_stateAt (s := State.resetRun c ts) hsingle n)
        fun hline => (hidle n (Nat.lt_succ_self n) hline).2
      rw [stepsWith_succ_toNat lineMoves, stepsWith_succ_toNat synconMoves, stateAt_succ]
      omega

end Sys2Proof.Machine
end

section
/-! PROOFS. The overruns of rule R281 (statement LinkHazardsAreReachable): one schedule for each row of the table that
says no, run from reset. -/

namespace Sys2Proof.Machine

/-- STR.SEND and a tick, and the sink up to the accepting RCV.POLL. -/
def upToReady : List Turn := [.word 0x22000000, .word 0xE1000000] ++ List.replicate 4 (.agent .snk)

/-- The Streamer pushes a byte and LNK takes it to the queue, with other turns while it is in `TSR`. -/
def pushedByte (meanwhile : List Turn) : List Turn := [.agent .str, .agent .lnk] ++ meanwhile ++ [.agent .lnk]

/-- The Receiver takes a step before each LNK.XFER, but RCV.RDYOFF frees no place in a queue of one byte. -/
def oneStepPerByte : List Turn :=
  upToReady ++ [.agent .str] ++ pushedByte [] ++ pushedByte [.agent .snk] ++ pushedByte [.agent .snk]

/-- With the first chunk's last bytes in `TSR` and `THR` the Streamer takes STR.WAITRR on the ready that RCV.RDYOFF has
not yet dropped; the Receiver then ends the chunk, and the second chunk comes to an idle sink. -/
def staleReady : List Turn :=
  upToReady ++ [.agent .str] ++ pushedByte [] ++ pushedByte [.agent .snk] ++
    [.agent .str, .agent .lnk, .agent .str, .agent .str] ++
    [.agent .snk, .agent .lnk, .agent .lnk, .agent .snk, .agent .lnk] ++
    pushedByte [.agent .snk] ++ pushedByte [.agent .snk] ++ pushedByte []

/-- The first chunk, of which the Receiver reads nothing. -/
def unreadChunk : List Turn := upToReady ++ [.agent .str] ++ (List.replicate 4 (pushedByte [])).flatten

/-- The whole frame, of which the Receiver reads nothing: its ready line stands, stale from the second chunk on. -/
def unreadFrame : List Turn :=
  upToReady ++ (List.replicate 8 ([Turn.agent .str] ++ (List.replicate 4 (pushedByte [])).flatten)).flatten

theorem oneStepPerByte_overruns : OverrunReachable 1 true true :=
  ⟨oneStepPerByte, 18, _, rfl, by decide +kernel, by decide +kernel, fun _ => by decide +kernel,
    fun _ => by decide +kernel, by decide +kernel⟩

theorem staleReady_overruns : OverrunReachable 2 true false :=
  ⟨staleReady, 34, _, rfl, by decide +kernel, by decide +kernel, fun _ => by decide +kernel, nofun, by decide +kernel⟩

/-- Two or three places are too few for a chunk, whose four bytes come before its ready can be stale. -/
theorem unreadChunk_overruns {d : Nat} (hd : d = 2 ∨ d = 3) : OverrunReachable d false true := by
  refine ⟨unreadChunk, 19, _, rfl, by decide +kernel, ?_, nofun, fun _ => ?_, ?_⟩ <;> rcases hd with rfl | rfl <;>
    decide +kernel

theorem unreadFrame_overruns : ∀ d < 32,
    stepsWith sendMoves (State.resetRun { Config.default with rxDepth := d } unreadFrame) 110 = 1 ∧
      (stateAt (State.resetRun { Config.default with rxDepth := d } unreadFrame) 110).ovr = true := by
  decide +kernel

/-- Settles O53: the schedules above; the frame's 32 bytes are one too many for any queue of fewer. -/
theorem linkHazardsAreReachable : Obligations.LinkHazardsAreReachable := by
  refine ⟨oneStepPerByte_overruns, staleReady_overruns, unreadChunk_overruns (.inl rfl),
    unreadChunk_overruns (.inr rfl), fun d _ hd => ?_⟩
  obtain ⟨hsend, hovr⟩ := unreadFrame_overruns d (by omega)
  exact ⟨unreadFrame, 110, _, rfl, by decide +kernel, hsend, nofun, nofun, hovr⟩

end Sys2Proof.Machine
end
